-- ==== Sys2Proof/Word.lean ====
section
/-! DEFINITION. The two word widths of the machine (spec/00_scope.md R8: registers and memory cells of 8 bits, register
pairs and addresses of 16 bits). -/

namespace Sys2Proof

/-- An 8-bit value: a register, a memory cell, an opcode byte (R8). -/
abbrev Byte := BitVec 8

/-- A 16-bit value: a register pair or an address (R8). -/
abbrev Word := BitVec 16

end Sys2Proof
end

