-- ==== Sys2Proof/Config.lean ====
section
/-! DEFINITION. The implementation parameters of spec/00_scope.md R8, each with the default the spec decides, but for three that
stand elsewhere: CYCLES is `Sys2Proof.Machine.cost` (Machine/Cycles.lean), RESET is `Sys2Proof.Machine.State.reset`, and ROM is the
part of the memory list below 0x8000. -/

namespace Sys2Proof

/-- A colour: "3 independent 8-bit channels" (R7, R50). -/
structure Rgb where
  r : Byte
  g : Byte
  b : Byte
deriving DecidableEq, Repr

namespace Config

/-- IMPLEMENTED (R8, R110; DESIGN CHOICE of the spec, D1 and D14; log entry 12): every primary opcode byte but the eleven
illegal ones (R107) and 0x10, STOP (R262). -/
def implemented (op : Byte) : Bool :=
  !([0x10, 0xD3, 0xDB, 0xDD, 0xE3, 0xE4, 0xEB, 0xEC, 0xED, 0xF4, 0xFC, 0xFD] : List Byte).contains op

/-- IMPLEMENTED_CB (R8, D1; log entry 12): all 256 second bytes. -/
def implementedCB (_op2 : Byte) : Bool := true

/-- HALT_IDLE_CYCLES (R8, R268; DESIGN CHOICE of the spec, D5; log entry 13). -/
def haltIdleCycles : Nat := 4

/-- INT_DISPATCH_CYCLES (R8, R317; DESIGN CHOICE of the spec, D7; log entry 13). -/
def intDispatchCycles : Nat := 0

/-- SHADE_RGB (R8; DESIGN CHOICE of the spec, D13; log entry 5): the colour of each of the four shades. -/
def shadeRgb (shade : BitVec 2) : Rgb :=
  match shade.toNat with
  | 0 => ⟨255, 255, 255⟩
  | 1 => ⟨170, 170, 170⟩
  | 2 => ⟨85, 85, 85⟩
  | _ => ⟨0, 0, 0⟩

/-- FB_BLANK (R8; DESIGN CHOICE of the spec, D13; log entry 5): the colour of a pixel nothing has drawn. -/
def fbBlank : Rgb := ⟨255, 255, 255⟩

end Config

end Sys2Proof
end

