-- ==== Sys2Proof/Syntax.lean ====
section
/-! DEFINITION. The instructions: one constructor for every row of spec/opcode_table.json, the rows with operands first (Lean's
runtime wants their tags below 245), otherwise in the table's order. A name is the row's
operation and then its operands; `at` before an operand says that the byte in memory there is meant ((HL) is `atHL`).
Operands: `n` an unsigned byte, `e` a signed displacement byte, `nn` a word (low byte first in the instruction), `b` a bit number
(30_encoding.md R103, R108). -/

namespace Sys2Proof

/-- An instruction (30_encoding.md R105, R106). Each constructor's comment gives its opcode bytes and the rule of its meaning. -/
inductive Instr where
  /-- `LD BC,nn`, 0x01, R150 -/
  | ld_BC_nn (nn : Word)
  /-- `LD B,n`, 0x06, R131 -/
  | ld_B_n (n : Byte)
  /-- `LD (nn),SP`, 0x08, R151 -/
  | ld_atnn_SP (nn : Word)
  /-- `LD C,n`, 0x0E, R131 -/
  | ld_C_n (n : Byte)
  /-- `STOP`, 0x10, R262 -/
  | stop (n : Byte)
  /-- `LD DE,nn`, 0x11, R150 -/
  | ld_DE_nn (nn : Word)
  /-- `LD D,n`, 0x16, R131 -/
  | ld_D_n (n : Byte)
  /-- `JR e`, 0x18, R214 -/
  | jr_e (e : Byte)
  /-- `LD E,n`, 0x1E, R131 -/
  | ld_E_n (n : Byte)
  /-- `JR NZ,e`, 0x20, R215 -/
  | jr_NZ_e (e : Byte)
  /-- `LD HL,nn`, 0x21, R150 -/
  | ld_HL_nn (nn : Word)
  /-- `LD H,n`, 0x26, R131 -/
  | ld_H_n (n : Byte)
  /-- `JR Z,e`, 0x28, R215 -/
  | jr_Z_e (e : Byte)
  /-- `LD L,n`, 0x2E, R131 -/
  | ld_L_n (n : Byte)
  /-- `JR NC,e`, 0x30, R215 -/
  | jr_NC_e (e : Byte)
  /-- `LD SP,nn`, 0x31, R150 -/
  | ld_SP_nn (nn : Word)
  /-- `LD (HL),n`, 0x36, R134 -/
  | ld_atHL_n (n : Byte)
  /-- `JR C,e`, 0x38, R215 -/
  | jr_C_e (e : Byte)
  /-- `LD A,n`, 0x3E, R131 -/
  | ld_A_n (n : Byte)
  /-- `JP NZ,nn`, 0xC2, R212 -/
  | jp_NZ_nn (nn : Word)
  /-- `JP nn`, 0xC3, R211 -/
  | jp_nn (nn : Word)
  /-- `CALL NZ,nn`, 0xC4, R217 -/
  | call_NZ_nn (nn : Word)
  /-- `ADD A,n`, 0xC6, R165 -/
  | add_A_n (n : Byte)
  /-- `JP Z,nn`, 0xCA, R212 -/
  | jp_Z_nn (nn : Word)
  /-- `PREFIX CB`, 0xCB before a second byte `op2`, R265. The decoder gives it only for a second byte with no entry in the extended
  table (log entry 8). -/
  | prefixCB (op2 : Byte)
  /-- `CALL Z,nn`, 0xCC, R217 -/
  | call_Z_nn (nn : Word)
  /-- `CALL nn`, 0xCD, R216 -/
  | call_nn (nn : Word)
  /-- `ADC A,n`, 0xCE, R168 -/
  | adc_A_n (n : Byte)
  /-- `JP NC,nn`, 0xD2, R212 -/
  | jp_NC_nn (nn : Word)
  /-- `CALL NC,nn`, 0xD4, R217 -/
  | call_NC_nn (nn : Word)
  /-- `SUB n`, 0xD6, R171 -/
  | sub_n (n : Byte)
  /-- `JP C,nn`, 0xDA, R212 -/
  | jp_C_nn (nn : Word)
  /-- `CALL C,nn`, 0xDC, R217 -/
  | call_C_nn (nn : Word)
  /-- `SBC A,n`, 0xDE, R174 -/
  | sbc_A_n (n : Byte)
  /-- `LDH (n),A`, 0xE0, R142 -/
  | ldh_atn_A (n : Byte)
  /-- `AND n`, 0xE6, R177 -/
  | and_n (n : Byte)
  /-- `ADD SP,e`, 0xE8, R204 -/
  | add_SP_e (e : Byte)
  /-- `LD (nn),A`, 0xEA, R140 -/
  | ld_atnn_A (nn : Word)
  /-- `XOR n`, 0xEE, R180 -/
  | xor_n (n : Byte)
  /-- `LDH A,(n)`, 0xF0, R141 -/
  | ldh_A_atn (n : Byte)
  /-- `OR n`, 0xF6, R183 -/
  | or_n (n : Byte)
  /-- `LD HL,SP+e`, 0xF8, R205 -/
  | ld_HL_SPe (e : Byte)
  /-- `LD A,(nn)`, 0xFA, R139 -/
  | ld_A_atnn (nn : Word)
  /-- `CP n`, 0xFE, R186 -/
  | cp_n (n : Byte)
  /-- `BIT b,B`, 0xCB40 + 8*b, R252 -/
  | bit_b_B (b : BitVec 3)
  /-- `BIT b,C`, 0xCB41 + 8*b, R252 -/
  | bit_b_C (b : BitVec 3)
  /-- `BIT b,D`, 0xCB42 + 8*b, R252 -/
  | bit_b_D (b : BitVec 3)
  /-- `BIT b,E`, 0xCB43 + 8*b, R252 -/
  | bit_b_E (b : BitVec 3)
  /-- `BIT b,H`, 0xCB44 + 8*b, R252 -/
  | bit_b_H (b : BitVec 3)
  /-- `BIT b,L`, 0xCB45 + 8*b, R252 -/
  | bit_b_L (b : BitVec 3)
  /-- `BIT b,(HL)`, 0xCB46 + 8*b, R253 -/
  | bit_b_atHL (b : BitVec 3)
  /-- `BIT b,A`, 0xCB47 + 8*b, R252 -/
  | bit_b_A (b : BitVec 3)
  /-- `RES b,B`, 0xCB80 + 8*b, R254 -/
  | res_b_B (b : BitVec 3)
  /-- `RES b,C`, 0xCB81 + 8*b, R254 -/
  | res_b_C (b : BitVec 3)
  /-- `RES b,D`, 0xCB82 + 8*b, R254 -/
  | res_b_D (b : BitVec 3)
  /-- `RES b,E`, 0xCB83 + 8*b, R254 -/
  | res_b_E (b : BitVec 3)
  /-- `RES b,H`, 0xCB84 + 8*b, R254 -/
  | res_b_H (b : BitVec 3)
  /-- `RES b,L`, 0xCB85 + 8*b, R254 -/
  | res_b_L (b : BitVec 3)
  /-- `RES b,(HL)`, 0xCB86 + 8*b, R255 -/
  | res_b_atHL (b : BitVec 3)
  /-- `RES b,A`, 0xCB87 + 8*b, R254 -/
  | res_b_A (b : BitVec 3)
  /-- `SET b,B`, 0xCBC0 + 8*b, R256 -/
  | set_b_B (b : BitVec 3)
  /-- `SET b,C`, 0xCBC1 + 8*b, R256 -/
  | set_b_C (b : BitVec 3)
  /-- `SET b,D`, 0xCBC2 + 8*b, R256 -/
  | set_b_D (b : BitVec 3)
  /-- `SET b,E`, 0xCBC3 + 8*b, R256 -/
  | set_b_E (b : BitVec 3)
  /-- `SET b,H`, 0xCBC4 + 8*b, R256 -/
  | set_b_H (b : BitVec 3)
  /-- `SET b,L`, 0xCBC5 + 8*b, R256 -/
  | set_b_L (b : BitVec 3)
  /-- `SET b,(HL)`, 0xCBC6 + 8*b, R257 -/
  | set_b_atHL (b : BitVec 3)
  /-- `SET b,A`, 0xCBC7 + 8*b, R256 -/
  | set_b_A (b : BitVec 3)
  /-- `NOP`, 0x00, R260 -/
  | nop
  /-- `LD (BC),A`, 0x02, R137 -/
  | ld_atBC_A
  /-- `INC BC`, 0x03, R202 -/
  | inc_BC
  /-- `INC B`, 0x04, R187 -/
  | inc_B
  /-- `DEC B`, 0x05, R189 -/
  | dec_B
  /-- `RLCA`, 0x07, R232 -/
  | rlca
  /-- `ADD HL,BC`, 0x09, R201 -/
  | add_HL_BC
  /-- `LD A,(BC)`, 0x0A, R135 -/
  | ld_A_atBC
  /-- `DEC BC`, 0x0B, R203 -/
  | dec_BC
  /-- `INC C`, 0x0C, R187 -/
  | inc_C
  /-- `DEC C`, 0x0D, R189 -/
  | dec_C
  /-- `RRCA`, 0x0F, R234 -/
  | rrca
  /-- `LD (DE),A`, 0x12, R138 -/
  | ld_atDE_A
  /-- `INC DE`, 0x13, R202 -/
  | inc_DE
  /-- `INC D`, 0x14, R187 -/
  | inc_D
  /-- `DEC D`, 0x15, R189 -/
  | dec_D
  /-- `RLA`, 0x17, R233 -/
  | rla
  /-- `ADD HL,DE`, 0x19, R201 -/
  | add_HL_DE
  /-- `LD A,(DE)`, 0x1A, R136 -/
  | ld_A_atDE
  /-- `DEC DE`, 0x1B, R203 -/
  | dec_DE
  /-- `INC E`, 0x1C, R187 -/
  | inc_E
  /-- `DEC E`, 0x1D, R189 -/
  | dec_E
  /-- `RRA`, 0x1F, R235 -/
  | rra
  /-- `LDI (HL),A`, 0x22, R145 -/
  | ldi_atHL_A
  /-- `INC HL`, 0x23, R202 -/
  | inc_HL
  /-- `INC H`, 0x24, R187 -/
  | inc_H
  /-- `DEC H`, 0x25, R189 -/
  | dec_H
  /-- `DAA`, 0x27, R191 -/
  | daa
  /-- `ADD HL,HL`, 0x29, R201 -/
  | add_HL_HL
  /-- `LDI A,(HL)`, 0x2A, R146 -/
  | ldi_A_atHL
  /-- `DEC HL`, 0x2B, R203 -/
  | dec_HL
  /-- `INC L`, 0x2C, R187 -/
  | inc_L
  /-- `DEC L`, 0x2D, R189 -/
  | dec_L
  /-- `CPL`, 0x2F, R192 -/
  | cpl
  /-- `LDD (HL),A`, 0x32, R147 -/
  | ldd_atHL_A
  /-- `INC SP`, 0x33, R202 -/
  | inc_SP
  /-- `INC (HL)`, 0x34, R188 -/
  | inc_atHL
  /-- `DEC (HL)`, 0x35, R190 -/
  | dec_atHL
  /-- `SCF`, 0x37, R193 -/
  | scf
  /-- `ADD HL,SP`, 0x39, R201 -/
  | add_HL_SP
  /-- `LDD A,(HL)`, 0x3A, R148 -/
  | ldd_A_atHL
  /-- `DEC SP`, 0x3B, R203 -/
  | dec_SP
  /-- `INC A`, 0x3C, R187 -/
  | inc_A
  /-- `DEC A`, 0x3D, R189 -/
  | dec_A
  /-- `CCF`, 0x3F, R194 -/
  | ccf
  /-- `LD B,B`, 0x40, R130 -/
  | ld_B_B
  /-- `LD B,C`, 0x41, R130 -/
  | ld_B_C
  /-- `LD B,D`, 0x42, R130 -/
  | ld_B_D
  /-- `LD B,E`, 0x43, R130 -/
  | ld_B_E
  /-- `LD B,H`, 0x44, R130 -/
  | ld_B_H
  /-- `LD B,L`, 0x45, R130 -/
  | ld_B_L
  /-- `LD B,(HL)`, 0x46, R132 -/
  | ld_B_atHL
  /-- `LD B,A`, 0x47, R130 -/
  | ld_B_A
  /-- `LD C,B`, 0x48, R130 -/
  | ld_C_B
  /-- `LD C,C`, 0x49, R130 -/
  | ld_C_C
  /-- `LD C,D`, 0x4A, R130 -/
  | ld_C_D
  /-- `LD C,E`, 0x4B, R130 -/
  | ld_C_E
  /-- `LD C,H`, 0x4C, R130 -/
  | ld_C_H
  /-- `LD C,L`, 0x4D, R130 -/
  | ld_C_L
  /-- `LD C,(HL)`, 0x4E, R132 -/
  | ld_C_atHL
  /-- `LD C,A`, 0x4F, R130 -/
  | ld_C_A
  /-- `LD D,B`, 0x50, R130 -/
  | ld_D_B
  /-- `LD D,C`, 0x51, R130 -/
  | ld_D_C
  /-- `LD D,D`, 0x52, R130 -/
  | ld_D_D
  /-- `LD D,E`, 0x53, R130 -/
  | ld_D_E
  /-- `LD D,H`, 0x54, R130 -/
  | ld_D_H
  /-- `LD D,L`, 0x55, R130 -/
  | ld_D_L
  /-- `LD D,(HL)`, 0x56, R132 -/
  | ld_D_atHL
  /-- `LD D,A`, 0x57, R130 -/
  | ld_D_A
  /-- `LD E,B`, 0x58, R130 -/
  | ld_E_B
  /-- `LD E,C`, 0x59, R130 -/
  | ld_E_C
  /-- `LD E,D`, 0x5A, R130 -/
  | ld_E_D
  /-- `LD E,E`, 0x5B, R130 -/
  | ld_E_E
  /-- `LD E,H`, 0x5C, R130 -/
  | ld_E_H
  /-- `LD E,L`, 0x5D, R130 -/
  | ld_E_L
  /-- `LD E,(HL)`, 0x5E, R132 -/
  | ld_E_atHL
  /-- `LD E,A`, 0x5F, R130 -/
  | ld_E_A
  /-- `LD H,B`, 0x60, R130 -/
  | ld_H_B
  /-- `LD H,C`, 0x61, R130 -/
  | ld_H_C
  /-- `LD H,D`, 0x62, R130 -/
  | ld_H_D
  /-- `LD H,E`, 0x63, R130 -/
  | ld_H_E
  /-- `LD H,H`, 0x64, R130 -/
  | ld_H_H
  /-- `LD H,L`, 0x65, R130 -/
  | ld_H_L
  /-- `LD H,(HL)`, 0x66, R132 -/
  | ld_H_atHL
  /-- `LD H,A`, 0x67, R130 -/
  | ld_H_A
  /-- `LD L,B`, 0x68, R130 -/
  | ld_L_B
  /-- `LD L,C`, 0x69, R130 -/
  | ld_L_C
  /-- `LD L,D`, 0x6A, R130 -/
  | ld_L_D
  /-- `LD L,E`, 0x6B, R130 -/
  | ld_L_E
  /-- `LD L,H`, 0x6C, R130 -/
  | ld_L_H
  /-- `LD L,L`, 0x6D, R130 -/
  | ld_L_L
  /-- `LD L,(HL)`, 0x6E, R132 -/
  | ld_L_atHL
  /-- `LD L,A`, 0x6F, R130 -/
  | ld_L_A
  /-- `LD (HL),B`, 0x70, R133 -/
  | ld_atHL_B
  /-- `LD (HL),C`, 0x71, R133 -/
  | ld_atHL_C
  /-- `LD (HL),D`, 0x72, R133 -/
  | ld_atHL_D
  /-- `LD (HL),E`, 0x73, R133 -/
  | ld_atHL_E
  /-- `LD (HL),H`, 0x74, R133 -/
  | ld_atHL_H
  /-- `LD (HL),L`, 0x75, R133 -/
  | ld_atHL_L
  /-- `HALT`, 0x76, R261 -/
  | halt
  /-- `LD (HL),A`, 0x77, R133 -/
  | ld_atHL_A
  /-- `LD A,B`, 0x78, R130 -/
  | ld_A_B
  /-- `LD A,C`, 0x79, R130 -/
  | ld_A_C
  /-- `LD A,D`, 0x7A, R130 -/
  | ld_A_D
  /-- `LD A,E`, 0x7B, R130 -/
  | ld_A_E
  /-- `LD A,H`, 0x7C, R130 -/
  | ld_A_H
  /-- `LD A,L`, 0x7D, R130 -/
  | ld_A_L
  /-- `LD A,(HL)`, 0x7E, R132 -/
  | ld_A_atHL
  /-- `LD A,A`, 0x7F, R130 -/
  | ld_A_A
  /-- `ADD A,B`, 0x80, R163 -/
  | add_A_B
  /-- `ADD A,C`, 0x81, R163 -/
  | add_A_C
  /-- `ADD A,D`, 0x82, R163 -/
  | add_A_D
  /-- `ADD A,E`, 0x83, R163 -/
  | add_A_E
  /-- `ADD A,H`, 0x84, R163 -/
  | add_A_H
  /-- `ADD A,L`, 0x85, R163 -/
  | add_A_L
  /-- `ADD A,(HL)`, 0x86, R164 -/
  | add_A_atHL
  /-- `ADD A,A`, 0x87, R163 -/
  | add_A_A
  /-- `ADC A,B`, 0x88, R166 -/
  | adc_A_B
  /-- `ADC A,C`, 0x89, R166 -/
  | adc_A_C
  /-- `ADC A,D`, 0x8A, R166 -/
  | adc_A_D
  /-- `ADC A,E`, 0x8B, R166 -/
  | adc_A_E
  /-- `ADC A,H`, 0x8C, R166 -/
  | adc_A_H
  /-- `ADC A,L`, 0x8D, R166 -/
  | adc_A_L
  /-- `ADC A,(HL)`, 0x8E, R167 -/
  | adc_A_atHL
  /-- `ADC A,A`, 0x8F, R166 -/
  | adc_A_A
  /-- `SUB B`, 0x90, R169 -/
  | sub_B
  /-- `SUB C`, 0x91, R169 -/
  | sub_C
  /-- `SUB D`, 0x92, R169 -/
  | sub_D
  /-- `SUB E`, 0x93, R169 -/
  | sub_E
  /-- `SUB H`, 0x94, R169 -/
  | sub_H
  /-- `SUB L`, 0x95, R169 -/
  | sub_L
  /-- `SUB (HL)`, 0x96, R170 -/
  | sub_atHL
  /-- `SUB A`, 0x97, R169 -/
  | sub_A
  /-- `SBC A,B`, 0x98, R172 -/
  | sbc_A_B
  /-- `SBC A,C`, 0x99, R172 -/
  | sbc_A_C
  /-- `SBC A,D`, 0x9A, R172 -/
  | sbc_A_D
  /-- `SBC A,E`, 0x9B, R172 -/
  | sbc_A_E
  /-- `SBC A,H`, 0x9C, R172 -/
  | sbc_A_H
  /-- `SBC A,L`, 0x9D, R172 -/
  | sbc_A_L
  /-- `SBC A,(HL)`, 0x9E, R173 -/
  | sbc_A_atHL
  /-- `SBC A,A`, 0x9F, R172 -/
  | sbc_A_A
  /-- `AND B`, 0xA0, R175 -/
  | and_B
  /-- `AND C`, 0xA1, R175 -/
  | and_C
  /-- `AND D`, 0xA2, R175 -/
  | and_D
  /-- `AND E`, 0xA3, R175 -/
  | and_E
  /-- `AND H`, 0xA4, R175 -/
  | and_H
  /-- `AND L`, 0xA5, R175 -/
  | and_L
  /-- `AND (HL)`, 0xA6, R176 -/
  | and_atHL
  /-- `AND A`, 0xA7, R175 -/
  | and_A
  /-- `XOR B`, 0xA8, R178 -/
  | xor_B
  /-- `XOR C`, 0xA9, R178 -/
  | xor_C
  /-- `XOR D`, 0xAA, R178 -/
  | xor_D
  /-- `XOR E`, 0xAB, R178 -/
  | xor_E
  /-- `XOR H`, 0xAC, R178 -/
  | xor_H
  /-- `XOR L`, 0xAD, R178 -/
  | xor_L
  /-- `XOR (HL)`, 0xAE, R179 -/
  | xor_atHL
  /-- `XOR A`, 0xAF, R178 -/
  | xor_A
  /-- `OR B`, 0xB0, R181 -/
  | or_B
  /-- `OR C`, 0xB1, R181 -/
  | or_C
  /-- `OR D`, 0xB2, R181 -/
  | or_D
  /-- `OR E`, 0xB3, R181 -/
  | or_E
  /-- `OR H`, 0xB4, R181 -/
  | or_H
  /-- `OR L`, 0xB5, R181 -/
  | or_L
  /-- `OR (HL)`, 0xB6, R182 -/
  | or_atHL
  /-- `OR A`, 0xB7, R181 -/
  | or_A
  /-- `CP B`, 0xB8, R184 -/
  | cp_B
  /-- `CP C`, 0xB9, R184 -/
  | cp_C
  /-- `CP D`, 0xBA, R184 -/
  | cp_D
  /-- `CP E`, 0xBB, R184 -/
  | cp_E
  /-- `CP H`, 0xBC, R184 -/
  | cp_H
  /-- `CP L`, 0xBD, R184 -/
  | cp_L
  /-- `CP (HL)`, 0xBE, R185 -/
  | cp_atHL
  /-- `CP A`, 0xBF, R184 -/
  | cp_A
  /-- `RET NZ`, 0xC0, R219 -/
  | ret_NZ
  /-- `POP BC`, 0xC1, R154 -/
  | pop_BC
  /-- `PUSH BC`, 0xC5, R153 -/
  | push_BC
  /-- `RST 00H`, 0xC7, R221 -/
  | rst_00H
  /-- `RET Z`, 0xC8, R219 -/
  | ret_Z
  /-- `RET`, 0xC9, R218 -/
  | ret
  /-- `RST 08H`, 0xCF, R221 -/
  | rst_08H
  /-- `RET NC`, 0xD0, R219 -/
  | ret_NC
  /-- `POP DE`, 0xD1, R154 -/
  | pop_DE
  /-- `illegal`, 0xD3, R266 -/
  | illegal_D3
  /-- `PUSH DE`, 0xD5, R153 -/
  | push_DE
  /-- `RST 10H`, 0xD7, R221 -/
  | rst_10H
  /-- `RET C`, 0xD8, R219 -/
  | ret_C
  /-- `RETI`, 0xD9, R220 -/
  | reti
  /-- `illegal`, 0xDB, R266 -/
  | illegal_DB
  /-- `illegal`, 0xDD, R266 -/
  | illegal_DD
  /-- `RST 18H`, 0xDF, R221 -/
  | rst_18H
  /-- `POP HL`, 0xE1, R154 -/
  | pop_HL
  /-- `LD (C),A`, 0xE2, R144 -/
  | ld_atC_A
  /-- `illegal`, 0xE3, R266 -/
  | illegal_E3
  /-- `illegal`, 0xE4, R266 -/
  | illegal_E4
  /-- `PUSH HL`, 0xE5, R153 -/
  | push_HL
  /-- `RST 20H`, 0xE7, R221 -/
  | rst_20H
  /-- `JP HL`, 0xE9, R213 -/
  | jp_HL
  /-- `illegal`, 0xEB, R266 -/
  | illegal_EB
  /-- `illegal`, 0xEC, R266 -/
  | illegal_EC
  /-- `illegal`, 0xED, R266 -/
  | illegal_ED
  /-- `RST 28H`, 0xEF, R221 -/
  | rst_28H
  /-- `POP AF`, 0xF1, R155 -/
  | pop_AF
  /-- `LD A,(C)`, 0xF2, R143 -/
  | ld_A_atC
  /-- `DI`, 0xF3, R263 -/
  | di
  /-- `illegal`, 0xF4, R266 -/
  | illegal_F4
  /-- `PUSH AF`, 0xF5, R153 -/
  | push_AF
  /-- `RST 30H`, 0xF7, R221 -/
  | rst_30H
  /-- `LD SP,HL`, 0xF9, R152 -/
  | ld_SP_HL
  /-- `EI`, 0xFB, R264 -/
  | ei
  /-- `illegal`, 0xFC, R266 -/
  | illegal_FC
  /-- `illegal`, 0xFD, R266 -/
  | illegal_FD
  /-- `RST 38H`, 0xFF, R221 -/
  | rst_38H
  /-- `RLC B`, 0xCB00, R236 -/
  | rlc_B
  /-- `RLC C`, 0xCB01, R236 -/
  | rlc_C
  /-- `RLC D`, 0xCB02, R236 -/
  | rlc_D
  /-- `RLC E`, 0xCB03, R236 -/
  | rlc_E
  /-- `RLC H`, 0xCB04, R236 -/
  | rlc_H
  /-- `RLC L`, 0xCB05, R236 -/
  | rlc_L
  /-- `RLC (HL)`, 0xCB06, R237 -/
  | rlc_atHL
  /-- `RLC A`, 0xCB07, R236 -/
  | rlc_A
  /-- `RRC B`, 0xCB08, R238 -/
  | rrc_B
  /-- `RRC C`, 0xCB09, R238 -/
  | rrc_C
  /-- `RRC D`, 0xCB0A, R238 -/
  | rrc_D
  /-- `RRC E`, 0xCB0B, R238 -/
  | rrc_E
  /-- `RRC H`, 0xCB0C, R238 -/
  | rrc_H
  /-- `RRC L`, 0xCB0D, R238 -/
  | rrc_L
  /-- `RRC (HL)`, 0xCB0E, R239 -/
  | rrc_atHL
  /-- `RRC A`, 0xCB0F, R238 -/
  | rrc_A
  /-- `RL B`, 0xCB10, R240 -/
  | rl_B
  /-- `RL C`, 0xCB11, R240 -/
  | rl_C
  /-- `RL D`, 0xCB12, R240 -/
  | rl_D
  /-- `RL E`, 0xCB13, R240 -/
  | rl_E
  /-- `RL H`, 0xCB14, R240 -/
  | rl_H
  /-- `RL L`, 0xCB15, R240 -/
  | rl_L
  /-- `RL (HL)`, 0xCB16, R241 -/
  | rl_atHL
  /-- `RL A`, 0xCB17, R240 -/
  | rl_A
  /-- `RR B`, 0xCB18, R242 -/
  | rr_B
  /-- `RR C`, 0xCB19, R242 -/
  | rr_C
  /-- `RR D`, 0xCB1A, R242 -/
  | rr_D
  /-- `RR E`, 0xCB1B, R242 -/
  | rr_E
  /-- `RR H`, 0xCB1C, R242 -/
  | rr_H
  /-- `RR L`, 0xCB1D, R242 -/
  | rr_L
  /-- `RR (HL)`, 0xCB1E, R243 -/
  | rr_atHL
  /-- `RR A`, 0xCB1F, R242 -/
  | rr_A
  /-- `SLA B`, 0xCB20, R244 -/
  | sla_B
  /-- `SLA C`, 0xCB21, R244 -/
  | sla_C
  /-- `SLA D`, 0xCB22, R244 -/
  | sla_D
  /-- `SLA E`, 0xCB23, R244 -/
  | sla_E
  /-- `SLA H`, 0xCB24, R244 -/
  | sla_H
  /-- `SLA L`, 0xCB25, R244 -/
  | sla_L
  /-- `SLA (HL)`, 0xCB26, R245 -/
  | sla_atHL
  /-- `SLA A`, 0xCB27, R244 -/
  | sla_A
  /-- `SRA B`, 0xCB28, R246 -/
  | sra_B
  /-- `SRA C`, 0xCB29, R246 -/
  | sra_C
  /-- `SRA D`, 0xCB2A, R246 -/
  | sra_D
  /-- `SRA E`, 0xCB2B, R246 -/
  | sra_E
  /-- `SRA H`, 0xCB2C, R246 -/
  | sra_H
  /-- `SRA L`, 0xCB2D, R246 -/
  | sra_L
  /-- `SRA (HL)`, 0xCB2E, R247 -/
  | sra_atHL
  /-- `SRA A`, 0xCB2F, R246 -/
  | sra_A
  /-- `SWAP B`, 0xCB30, R248 -/
  | swap_B
  /-- `SWAP C`, 0xCB31, R248 -/
  | swap_C
  /-- `SWAP D`, 0xCB32, R248 -/
  | swap_D
  /-- `SWAP E`, 0xCB33, R248 -/
  | swap_E
  /-- `SWAP H`, 0xCB34, R248 -/
  | swap_H
  /-- `SWAP L`, 0xCB35, R248 -/
  | swap_L
  /-- `SWAP (HL)`, 0xCB36, R249 -/
  | swap_atHL
  /-- `SWAP A`, 0xCB37, R248 -/
  | swap_A
  /-- `SRL B`, 0xCB38, R250 -/
  | srl_B
  /-- `SRL C`, 0xCB39, R250 -/
  | srl_C
  /-- `SRL D`, 0xCB3A, R250 -/
  | srl_D
  /-- `SRL E`, 0xCB3B, R250 -/
  | srl_E
  /-- `SRL H`, 0xCB3C, R250 -/
  | srl_H
  /-- `SRL L`, 0xCB3D, R250 -/
  | srl_L
  /-- `SRL (HL)`, 0xCB3E, R251 -/
  | srl_atHL
  /-- `SRL A`, 0xCB3F, R250 -/
  | srl_A
deriving DecidableEq, Repr

end Sys2Proof
end

