-- ==== Sys2Proof/WellFormed.lean ====
section
/-! DEFINITION. Which terms of `Instr` are instructions. Every operand's type is exactly as wide as its field, so no operand value is
ever out of range; the one check is on the bare prefix. -/

namespace Sys2Proof

/-- 0xCB "is not an instruction by itself" (46_system.md R265): with a second byte that the extended table has, the two bytes are
that table's instruction, so the bare prefix term stands only before a second byte outside IMPLEMENTED_CB. -/
def WellFormed : Instr → Bool
  | .prefixCB op2 => !Config.implementedCB op2
  | _ => true

end Sys2Proof
end

