-- ==== Sys2Proof/Decode.lean ====
section
/-! DEFINITION. The decoder (30_encoding.md R100 to R112), total on any bytes, and after it the encoder. A row of the primary map
says the instruction's format and with it its length (R100, R112). -/

namespace Sys2Proof

/-- Why bytes are rejected. There is one reason: fewer bytes are given than byte 0's format asks for (R112). No opcode byte
is rejected here: the eleven illegal bytes are rows of the table, whose meaning is the fault of R266. -/
inductive DecodeReject where
  | truncated
deriving DecidableEq, Repr

/-- One entry of the primary map with its format (R100): what follows the opcode byte, and the instruction it makes. -/
inductive Row where
  /-- OP: no further byte. -/
  | op (i : Instr)
  /-- OP_D8: one unsigned immediate byte. -/
  | d8 (f : Byte → Instr)
  /-- OP_E8: one signed displacement byte. -/
  | e8 (f : Byte → Instr)
  /-- OP_D16: two bytes, the low byte first. -/
  | d16 (f : Word → Instr)
  /-- 0xCB: a second opcode byte, looked up in the extended map. -/
  | cb

/-- The length in bytes that byte 0 alone tells (R112). -/
def Row.length : Row → Nat
  | .op _ => 1
  | .d8 _ => 2
  | .e8 _ => 2
  | .d16 _ => 3
  | .cb => 2

/-- The primary map (R105), opcodes 0x00 to 0x3F (x = 0): a line is one y, its eight entries z = 0 to 7. -/
def primaryBlock0 : List Row := [
  .op .nop, .d16 .ld_BC_nn, .op .ld_atBC_A, .op .inc_BC,
    .op .inc_B, .op .dec_B, .d8 .ld_B_n, .op .rlca,
  .d16 .ld_atnn_SP, .op .add_HL_BC, .op .ld_A_atBC, .op .dec_BC,
    .op .inc_C, .op .dec_C, .d8 .ld_C_n, .op .rrca,
  .d8 .stop, .d16 .ld_DE_nn, .op .ld_atDE_A, .op .inc_DE,
    .op .inc_D, .op .dec_D, .d8 .ld_D_n, .op .rla,
  .e8 .jr_e, .op .add_HL_DE, .op .ld_A_atDE, .op .dec_DE,
    .op .inc_E, .op .dec_E, .d8 .ld_E_n, .op .rra,
  .e8 .jr_NZ_e, .d16 .ld_HL_nn, .op .ldi_atHL_A, .op .inc_HL,
    .op .inc_H, .op .dec_H, .d8 .ld_H_n, .op .daa,
  .e8 .jr_Z_e, .op .add_HL_HL, .op .ldi_A_atHL, .op .dec_HL,
    .op .inc_L, .op .dec_L, .d8 .ld_L_n, .op .cpl,
  .e8 .jr_NC_e, .d16 .ld_SP_nn, .op .ldd_atHL_A, .op .inc_SP,
    .op .inc_atHL, .op .dec_atHL, .d8 .ld_atHL_n, .op .scf,
  .e8 .jr_C_e, .op .add_HL_SP, .op .ldd_A_atHL, .op .dec_SP,
    .op .inc_A, .op .dec_A, .d8 .ld_A_n, .op .ccf]

/-- The primary map (R105), opcodes 0x40 to 0x7F (x = 1): a line is one y, its eight entries z = 0 to 7. -/
def primaryBlock1 : List Row := [
  .op .ld_B_B, .op .ld_B_C, .op .ld_B_D, .op .ld_B_E,
    .op .ld_B_H, .op .ld_B_L, .op .ld_B_atHL, .op .ld_B_A,
  .op .ld_C_B, .op .ld_C_C, .op .ld_C_D, .op .ld_C_E,
    .op .ld_C_H, .op .ld_C_L, .op .ld_C_atHL, .op .ld_C_A,
  .op .ld_D_B, .op .ld_D_C, .op .ld_D_D, .op .ld_D_E,
    .op .ld_D_H, .op .ld_D_L, .op .ld_D_atHL, .op .ld_D_A,
  .op .ld_E_B, .op .ld_E_C, .op .ld_E_D, .op .ld_E_E,
    .op .ld_E_H, .op .ld_E_L, .op .ld_E_atHL, .op .ld_E_A,
  .op .ld_H_B, .op .ld_H_C, .op .ld_H_D, .op .ld_H_E,
    .op .ld_H_H, .op .ld_H_L, .op .ld_H_atHL, .op .ld_H_A,
  .op .ld_L_B, .op .ld_L_C, .op .ld_L_D, .op .ld_L_E,
    .op .ld_L_H, .op .ld_L_L, .op .ld_L_atHL, .op .ld_L_A,
  .op .ld_atHL_B, .op .ld_atHL_C, .op .ld_atHL_D, .op .ld_atHL_E,
    .op .ld_atHL_H, .op .ld_atHL_L, .op .halt, .op .ld_atHL_A,
  .op .ld_A_B, .op .ld_A_C, .op .ld_A_D, .op .ld_A_E,
    .op .ld_A_H, .op .ld_A_L, .op .ld_A_atHL, .op .ld_A_A]

/-- The primary map (R105), opcodes 0x80 to 0xBF (x = 2): a line is one y, its eight entries z = 0 to 7. -/
def primaryBlock2 : List Row := [
  .op .add_A_B, .op .add_A_C, .op .add_A_D, .op .add_A_E,
    .op .add_A_H, .op .add_A_L, .op .add_A_atHL, .op .add_A_A,
  .op .adc_A_B, .op .adc_A_C, .op .adc_A_D, .op .adc_A_E,
    .op .adc_A_H, .op .adc_A_L, .op .adc_A_atHL, .op .adc_A_A,
  .op .sub_B, .op .sub_C, .op .sub_D, .op .sub_E,
    .op .sub_H, .op .sub_L, .op .sub_atHL, .op .sub_A,
  .op .sbc_A_B, .op .sbc_A_C, .op .sbc_A_D, .op .sbc_A_E,
    .op .sbc_A_H, .op .sbc_A_L, .op .sbc_A_atHL, .op .sbc_A_A,
  .op .and_B, .op .and_C, .op .and_D, .op .and_E,
    .op .and_H, .op .and_L, .op .and_atHL, .op .and_A,
  .op .xor_B, .op .xor_C, .op .xor_D, .op .xor_E,
    .op .xor_H, .op .xor_L, .op .xor_atHL, .op .xor_A,
  .op .or_B, .op .or_C, .op .or_D, .op .or_E,
    .op .or_H, .op .or_L, .op .or_atHL, .op .or_A,
  .op .cp_B, .op .cp_C, .op .cp_D, .op .cp_E,
    .op .cp_H, .op .cp_L, .op .cp_atHL, .op .cp_A]

/-- The primary map (R105), opcodes 0xC0 to 0xFF (x = 3): a line is one y, its eight entries z = 0 to 7. -/
def primaryBlock3 : List Row := [
  .op .ret_NZ, .op .pop_BC, .d16 .jp_NZ_nn, .d16 .jp_nn,
    .d16 .call_NZ_nn, .op .push_BC, .d8 .add_A_n, .op .rst_00H,
  .op .ret_Z, .op .ret, .d16 .jp_Z_nn, .cb,
    .d16 .call_Z_nn, .d16 .call_nn, .d8 .adc_A_n, .op .rst_08H,
  .op .ret_NC, .op .pop_DE, .d16 .jp_NC_nn, .op .illegal_D3,
    .d16 .call_NC_nn, .op .push_DE, .d8 .sub_n, .op .rst_10H,
  .op .ret_C, .op .reti, .d16 .jp_C_nn, .op .illegal_DB,
    .d16 .call_C_nn, .op .illegal_DD, .d8 .sbc_A_n, .op .rst_18H,
  .d8 .ldh_atn_A, .op .pop_HL, .op .ld_atC_A, .op .illegal_E3,
    .op .illegal_E4, .op .push_HL, .d8 .and_n, .op .rst_20H,
  .e8 .add_SP_e, .op .jp_HL, .d16 .ld_atnn_A, .op .illegal_EB,
    .op .illegal_EC, .op .illegal_ED, .d8 .xor_n, .op .rst_28H,
  .d8 .ldh_A_atn, .op .pop_AF, .op .ld_A_atC, .op .di,
    .op .illegal_F4, .op .push_AF, .d8 .or_n, .op .rst_30H,
  .e8 .ld_HL_SPe, .op .ld_SP_HL, .d16 .ld_A_atnn, .op .ei,
    .op .illegal_FC, .op .illegal_FD, .d8 .cp_n, .op .rst_38H]

/-- The primary map (R105), all 256 entries in the order of the opcode byte. -/
def primaryMap : List Row := primaryBlock0 ++ primaryBlock1 ++ primaryBlock2 ++ primaryBlock3

theorem primaryBlock_lengths : primaryBlock0.length = 64 ∧ primaryBlock1.length = 64 ∧
    primaryBlock2.length = 64 ∧ primaryBlock3.length = 64 := ⟨rfl, rfl, rfl, rfl⟩

theorem primaryMap_length : primaryMap.length = 256 := by
  obtain ⟨h0, h1, h2, h3⟩ := primaryBlock_lengths
  simp only [primaryMap, List.length_append, h0, h1, h2, h3]

/-- The entry of opcode byte `b0` (R105). -/
def primary (b0 : Byte) : Row := primaryMap.get ⟨b0.toNat, by rw [primaryMap_length]; exact b0.isLt⟩

/-- The extended map, x = 0 (R106): rotates, shifts, swap; a line is one operation y, its eight entries z = B, C, D, E, H, L, (HL), A. -/
def extendedShifts : List Instr := [
  .rlc_B, .rlc_C, .rlc_D, .rlc_E, .rlc_H, .rlc_L, .rlc_atHL, .rlc_A,
  .rrc_B, .rrc_C, .rrc_D, .rrc_E, .rrc_H, .rrc_L, .rrc_atHL, .rrc_A,
  .rl_B, .rl_C, .rl_D, .rl_E, .rl_H, .rl_L, .rl_atHL, .rl_A,
  .rr_B, .rr_C, .rr_D, .rr_E, .rr_H, .rr_L, .rr_atHL, .rr_A,
  .sla_B, .sla_C, .sla_D, .sla_E, .sla_H, .sla_L, .sla_atHL, .sla_A,
  .sra_B, .sra_C, .sra_D, .sra_E, .sra_H, .sra_L, .sra_atHL, .sra_A,
  .swap_B, .swap_C, .swap_D, .swap_E, .swap_H, .swap_L, .swap_atHL, .swap_A,
  .srl_B, .srl_C, .srl_D, .srl_E, .srl_H, .srl_L, .srl_atHL, .srl_A]

/-- The extended map, x = 1 (R106): `BIT b`, its eight entries z = B, C, D, E, H, L, (HL), A. -/
def extendedBit : List (BitVec 3 → Instr) := [
  .bit_b_B, .bit_b_C, .bit_b_D, .bit_b_E, .bit_b_H, .bit_b_L, .bit_b_atHL, .bit_b_A]

/-- The extended map, x = 2 (R106): `RES b`, its eight entries z = B, C, D, E, H, L, (HL), A. -/
def extendedRes : List (BitVec 3 → Instr) := [
  .res_b_B, .res_b_C, .res_b_D, .res_b_E, .res_b_H, .res_b_L, .res_b_atHL, .res_b_A]

/-- The extended map, x = 3 (R106): `SET b`, its eight entries z = B, C, D, E, H, L, (HL), A. -/
def extendedSet : List (BitVec 3 → Instr) := [
  .set_b_B, .set_b_C, .set_b_D, .set_b_E, .set_b_H, .set_b_L, .set_b_atHL, .set_b_A]

theorem extendedShifts_length : extendedShifts.length = 64 := rfl

/-- Entry `z` of a list of eight. -/
def atCode {α : Type} (l : List α) (h : l.length = 8) (z : BitVec 3) : α := l.get ⟨z.toNat, by rw [h]; exact z.isLt⟩

/-- The instruction of second byte `op2` (R106), by its fields x = [7:6], y = [5:3], z = [2:0] (R101). A second byte
outside IMPLEMENTED_CB has no entry (R265). -/
def extended (op2 : Byte) : Instr :=
  if Config.implementedCB op2 then
    let y : BitVec 3 := op2.extractLsb' 3 3
    let z : BitVec 3 := op2.extractLsb' 0 3
    match (op2.extractLsb' 6 2).toNat with
    | 0 => extendedShifts.get ⟨(op2.extractLsb' 0 6).toNat, by rw [extendedShifts_length]; exact (op2.extractLsb' 0 6).isLt⟩
    | 1 => atCode extendedBit rfl z y
    | 2 => atCode extendedRes rfl z y
    | _ => atCode extendedSet rfl z y
  else .prefixCB op2

/-- The instruction a row makes of the two bytes after the opcode byte; a 16-bit immediate has its low byte first (R103). -/
def Row.instr (r : Row) (b1 b2 : Byte) : Instr :=
  match r with
  | .op i => i
  | .d8 f => f b1
  | .e8 f => f b1
  | .d16 f => f (b2 ++ b1)
  | .cb => extended b1

/-- The instruction that starts with byte `b0`, when `b1` and `b2` are the two bytes after it (R112); it reads of the two
only as many as the length says. -/
def decodeBytes (b0 b1 b2 : Byte) : Instr := (primary b0).instr b1 b2

/-- The decoder: the instruction at the head of a list of bytes and the bytes after it, or why there is none (R112). -/
def decode : List Byte → Except DecodeReject (Instr × List Byte)
  | [] => .error .truncated
  | b0 :: rest =>
    match primary b0, rest with
    | .op i, rest => .ok (i, rest)
    | .d8 f, b1 :: rest => .ok (f b1, rest)
    | .e8 f, b1 :: rest => .ok (f b1, rest)
    | .d16 f, b1 :: b2 :: rest => .ok (f (b2 ++ b1), rest)
    | .cb, b1 :: rest => .ok (extended b1, rest)
    | _, _ => .error .truncated

/-- The bytes of an instruction given as ONE number in spec/opcode_table.json's numbering. The table gives every row but those of
the extended map the bits of byte 0, from bit 0 up; further bytes count on from bit 8. A row of the extended map has 16
bits "with 0xCB in the upper byte and the second byte in the lower" (30_encoding.md, opening): such a number, 16 bits with
0xCB in its upper byte, is the byte 0xCB and then the lower byte (log entry 9). Bits from `nbits` on are zero. -/
def tableBytes (nbits w : Nat) : Byte × Byte × Byte :=
  let v := w % 2 ^ nbits
  if nbits = 16 ∧ v / 256 = 0xCB then (0xCB, BitVec.ofNat 8 v, 0)
  else (BitVec.ofNat 8 v, BitVec.ofNat 8 (v / 256), BitVec.ofNat 8 (v / 65536))

/-- The instruction the decoder reads from an opcode-table word. -/
def decodeTableWord (nbits w : Nat) : Option Instr :=
  match decode [(tableBytes nbits w).1, (tableBytes nbits w).2.1, (tableBytes nbits w).2.2] with
  | .ok (i, _) => some i
  | .error _ => none

/-- The second byte of an extended instruction with a bit number: `x`, `b`, `z` side by side (R101, R106). -/
def bitByte (x : BitVec 2) (b z : BitVec 3) : Byte := x ++ b ++ z

/-- The bytes of a 16-bit immediate after opcode `op`: low byte first (R103). -/
def bytesD16 (op : Byte) (nn : Word) : List Byte := [op, nn.extractLsb' 0 8, nn.extractLsb' 8 8]

/-- The bytes of an instruction (R105, R106). -/
def encode : Instr → List Byte
  | .nop => [0x00]
  | .ld_BC_nn nn => bytesD16 0x01 nn
  | .ld_atBC_A => [0x02]
  | .inc_BC => [0x03]
  | .inc_B => [0x04]
  | .dec_B => [0x05]
  | .ld_B_n n => [0x06, n]
  | .rlca => [0x07]
  | .ld_atnn_SP nn => bytesD16 0x08 nn
  | .add_HL_BC => [0x09]
  | .ld_A_atBC => [0x0A]
  | .dec_BC => [0x0B]
  | .inc_C => [0x0C]
  | .dec_C => [0x0D]
  | .ld_C_n n => [0x0E, n]
  | .rrca => [0x0F]
  | .stop n => [0x10, n]
  | .ld_DE_nn nn => bytesD16 0x11 nn
  | .ld_atDE_A => [0x12]
  | .inc_DE => [0x13]
  | .inc_D => [0x14]
  | .dec_D => [0x15]
  | .ld_D_n n => [0x16, n]
  | .rla => [0x17]
  | .jr_e e => [0x18, e]
  | .add_HL_DE => [0x19]
  | .ld_A_atDE => [0x1A]
  | .dec_DE => [0x1B]
  | .inc_E => [0x1C]
  | .dec_E => [0x1D]
  | .ld_E_n n => [0x1E, n]
  | .rra => [0x1F]
  | .jr_NZ_e e => [0x20, e]
  | .ld_HL_nn nn => bytesD16 0x21 nn
  | .ldi_atHL_A => [0x22]
  | .inc_HL => [0x23]
  | .inc_H => [0x24]
  | .dec_H => [0x25]
  | .ld_H_n n => [0x26, n]
  | .daa => [0x27]
  | .jr_Z_e e => [0x28, e]
  | .add_HL_HL => [0x29]
  | .ldi_A_atHL => [0x2A]
  | .dec_HL => [0x2B]
  | .inc_L => [0x2C]
  | .dec_L => [0x2D]
  | .ld_L_n n => [0x2E, n]
  | .cpl => [0x2F]
  | .jr_NC_e e => [0x30, e]
  | .ld_SP_nn nn => bytesD16 0x31 nn
  | .ldd_atHL_A => [0x32]
  | .inc_SP => [0x33]
  | .inc_atHL => [0x34]
  | .dec_atHL => [0x35]
  | .ld_atHL_n n => [0x36, n]
  | .scf => [0x37]
  | .jr_C_e e => [0x38, e]
  | .add_HL_SP => [0x39]
  | .ldd_A_atHL => [0x3A]
  | .dec_SP => [0x3B]
  | .inc_A => [0x3C]
  | .dec_A => [0x3D]
  | .ld_A_n n => [0x3E, n]
  | .ccf => [0x3F]
  | .ld_B_B => [0x40]
  | .ld_B_C => [0x41]
  | .ld_B_D => [0x42]
  | .ld_B_E => [0x43]
  | .ld_B_H => [0x44]
  | .ld_B_L => [0x45]
  | .ld_B_atHL => [0x46]
  | .ld_B_A => [0x47]
  | .ld_C_B => [0x48]
  | .ld_C_C => [0x49]
  | .ld_C_D => [0x4A]
  | .ld_C_E => [0x4B]
  | .ld_C_H => [0x4C]
  | .ld_C_L => [0x4D]
  | .ld_C_atHL => [0x4E]
  | .ld_C_A => [0x4F]
  | .ld_D_B => [0x50]
  | .ld_D_C => [0x51]
  | .ld_D_D => [0x52]
  | .ld_D_E => [0x53]
  | .ld_D_H => [0x54]
  | .ld_D_L => [0x55]
  | .ld_D_atHL => [0x56]
  | .ld_D_A => [0x57]
  | .ld_E_B => [0x58]
  | .ld_E_C => [0x59]
  | .ld_E_D => [0x5A]
  | .ld_E_E => [0x5B]
  | .ld_E_H => [0x5C]
  | .ld_E_L => [0x5D]
  | .ld_E_atHL => [0x5E]
  | .ld_E_A => [0x5F]
  | .ld_H_B => [0x60]
  | .ld_H_C => [0x61]
  | .ld_H_D => [0x62]
  | .ld_H_E => [0x63]
  | .ld_H_H => [0x64]
  | .ld_H_L => [0x65]
  | .ld_H_atHL => [0x66]
  | .ld_H_A => [0x67]
  | .ld_L_B => [0x68]
  | .ld_L_C => [0x69]
  | .ld_L_D => [0x6A]
  | .ld_L_E => [0x6B]
  | .ld_L_H => [0x6C]
  | .ld_L_L => [0x6D]
  | .ld_L_atHL => [0x6E]
  | .ld_L_A => [0x6F]
  | .ld_atHL_B => [0x70]
  | .ld_atHL_C => [0x71]
  | .ld_atHL_D => [0x72]
  | .ld_atHL_E => [0x73]
  | .ld_atHL_H => [0x74]
  | .ld_atHL_L => [0x75]
  | .halt => [0x76]
  | .ld_atHL_A => [0x77]
  | .ld_A_B => [0x78]
  | .ld_A_C => [0x79]
  | .ld_A_D => [0x7A]
  | .ld_A_E => [0x7B]
  | .ld_A_H => [0x7C]
  | .ld_A_L => [0x7D]
  | .ld_A_atHL => [0x7E]
  | .ld_A_A => [0x7F]
  | .add_A_B => [0x80]
  | .add_A_C => [0x81]
  | .add_A_D => [0x82]
  | .add_A_E => [0x83]
  | .add_A_H => [0x84]
  | .add_A_L => [0x85]
  | .add_A_atHL => [0x86]
  | .add_A_A => [0x87]
  | .adc_A_B => [0x88]
  | .adc_A_C => [0x89]
  | .adc_A_D => [0x8A]
  | .adc_A_E => [0x8B]
  | .adc_A_H => [0x8C]
  | .adc_A_L => [0x8D]
  | .adc_A_atHL => [0x8E]
  | .adc_A_A => [0x8F]
  | .sub_B => [0x90]
  | .sub_C => [0x91]
  | .sub_D => [0x92]
  | .sub_E => [0x93]
  | .sub_H => [0x94]
  | .sub_L => [0x95]
  | .sub_atHL => [0x96]
  | .sub_A => [0x97]
  | .sbc_A_B => [0x98]
  | .sbc_A_C => [0x99]
  | .sbc_A_D => [0x9A]
  | .sbc_A_E => [0x9B]
  | .sbc_A_H => [0x9C]
  | .sbc_A_L => [0x9D]
  | .sbc_A_atHL => [0x9E]
  | .sbc_A_A => [0x9F]
  | .and_B => [0xA0]
  | .and_C => [0xA1]
  | .and_D => [0xA2]
  | .and_E => [0xA3]
  | .and_H => [0xA4]
  | .and_L => [0xA5]
  | .and_atHL => [0xA6]
  | .and_A => [0xA7]
  | .xor_B => [0xA8]
  | .xor_C => [0xA9]
  | .xor_D => [0xAA]
  | .xor_E => [0xAB]
  | .xor_H => [0xAC]
  | .xor_L => [0xAD]
  | .xor_atHL => [0xAE]
  | .xor_A => [0xAF]
  | .or_B => [0xB0]
  | .or_C => [0xB1]
  | .or_D => [0xB2]
  | .or_E => [0xB3]
  | .or_H => [0xB4]
  | .or_L => [0xB5]
  | .or_atHL => [0xB6]
  | .or_A => [0xB7]
  | .cp_B => [0xB8]
  | .cp_C => [0xB9]
  | .cp_D => [0xBA]
  | .cp_E => [0xBB]
  | .cp_H => [0xBC]
  | .cp_L => [0xBD]
  | .cp_atHL => [0xBE]
  | .cp_A => [0xBF]
  | .ret_NZ => [0xC0]
  | .pop_BC => [0xC1]
  | .jp_NZ_nn nn => bytesD16 0xC2 nn
  | .jp_nn nn => bytesD16 0xC3 nn
  | .call_NZ_nn nn => bytesD16 0xC4 nn
  | .push_BC => [0xC5]
  | .add_A_n n => [0xC6, n]
  | .rst_00H => [0xC7]
  | .ret_Z => [0xC8]
  | .ret => [0xC9]
  | .jp_Z_nn nn => bytesD16 0xCA nn
  | .prefixCB op2 => [0xCB, op2]
  | .call_Z_nn nn => bytesD16 0xCC nn
  | .call_nn nn => bytesD16 0xCD nn
  | .adc_A_n n => [0xCE, n]
  | .rst_08H => [0xCF]
  | .ret_NC => [0xD0]
  | .pop_DE => [0xD1]
  | .jp_NC_nn nn => bytesD16 0xD2 nn
  | .illegal_D3 => [0xD3]
  | .call_NC_nn nn => bytesD16 0xD4 nn
  | .push_DE => [0xD5]
  | .sub_n n => [0xD6, n]
  | .rst_10H => [0xD7]
  | .ret_C => [0xD8]
  | .reti => [0xD9]
  | .jp_C_nn nn => bytesD16 0xDA nn
  | .illegal_DB => [0xDB]
  | .call_C_nn nn => bytesD16 0xDC nn
  | .illegal_DD => [0xDD]
  | .sbc_A_n n => [0xDE, n]
  | .rst_18H => [0xDF]
  | .ldh_atn_A n => [0xE0, n]
  | .pop_HL => [0xE1]
  | .ld_atC_A => [0xE2]
  | .illegal_E3 => [0xE3]
  | .illegal_E4 => [0xE4]
  | .push_HL => [0xE5]
  | .and_n n => [0xE6, n]
  | .rst_20H => [0xE7]
  | .add_SP_e e => [0xE8, e]
  | .jp_HL => [0xE9]
  | .ld_atnn_A nn => bytesD16 0xEA nn
  | .illegal_EB => [0xEB]
  | .illegal_EC => [0xEC]
  | .illegal_ED => [0xED]
  | .xor_n n => [0xEE, n]
  | .rst_28H => [0xEF]
  | .ldh_A_atn n => [0xF0, n]
  | .pop_AF => [0xF1]
  | .ld_A_atC => [0xF2]
  | .di => [0xF3]
  | .illegal_F4 => [0xF4]
  | .push_AF => [0xF5]
  | .or_n n => [0xF6, n]
  | .rst_30H => [0xF7]
  | .ld_HL_SPe e => [0xF8, e]
  | .ld_SP_HL => [0xF9]
  | .ld_A_atnn nn => bytesD16 0xFA nn
  | .ei => [0xFB]
  | .illegal_FC => [0xFC]
  | .illegal_FD => [0xFD]
  | .cp_n n => [0xFE, n]
  | .rst_38H => [0xFF]
  | .rlc_B => [0xCB, 0x00]
  | .rlc_C => [0xCB, 0x01]
  | .rlc_D => [0xCB, 0x02]
  | .rlc_E => [0xCB, 0x03]
  | .rlc_H => [0xCB, 0x04]
  | .rlc_L => [0xCB, 0x05]
  | .rlc_atHL => [0xCB, 0x06]
  | .rlc_A => [0xCB, 0x07]
  | .rrc_B => [0xCB, 0x08]
  | .rrc_C => [0xCB, 0x09]
  | .rrc_D => [0xCB, 0x0A]
  | .rrc_E => [0xCB, 0x0B]
  | .rrc_H => [0xCB, 0x0C]
  | .rrc_L => [0xCB, 0x0D]
  | .rrc_atHL => [0xCB, 0x0E]
  | .rrc_A => [0xCB, 0x0F]
  | .rl_B => [0xCB, 0x10]
  | .rl_C => [0xCB, 0x11]
  | .rl_D => [0xCB, 0x12]
  | .rl_E => [0xCB, 0x13]
  | .rl_H => [0xCB, 0x14]
  | .rl_L => [0xCB, 0x15]
  | .rl_atHL => [0xCB, 0x16]
  | .rl_A => [0xCB, 0x17]
  | .rr_B => [0xCB, 0x18]
  | .rr_C => [0xCB, 0x19]
  | .rr_D => [0xCB, 0x1A]
  | .rr_E => [0xCB, 0x1B]
  | .rr_H => [0xCB, 0x1C]
  | .rr_L => [0xCB, 0x1D]
  | .rr_atHL => [0xCB, 0x1E]
  | .rr_A => [0xCB, 0x1F]
  | .sla_B => [0xCB, 0x20]
  | .sla_C => [0xCB, 0x21]
  | .sla_D => [0xCB, 0x22]
  | .sla_E => [0xCB, 0x23]
  | .sla_H => [0xCB, 0x24]
  | .sla_L => [0xCB, 0x25]
  | .sla_atHL => [0xCB, 0x26]
  | .sla_A => [0xCB, 0x27]
  | .sra_B => [0xCB, 0x28]
  | .sra_C => [0xCB, 0x29]
  | .sra_D => [0xCB, 0x2A]
  | .sra_E => [0xCB, 0x2B]
  | .sra_H => [0xCB, 0x2C]
  | .sra_L => [0xCB, 0x2D]
  | .sra_atHL => [0xCB, 0x2E]
  | .sra_A => [0xCB, 0x2F]
  | .swap_B => [0xCB, 0x30]
  | .swap_C => [0xCB, 0x31]
  | .swap_D => [0xCB, 0x32]
  | .swap_E => [0xCB, 0x33]
  | .swap_H => [0xCB, 0x34]
  | .swap_L => [0xCB, 0x35]
  | .swap_atHL => [0xCB, 0x36]
  | .swap_A => [0xCB, 0x37]
  | .srl_B => [0xCB, 0x38]
  | .srl_C => [0xCB, 0x39]
  | .srl_D => [0xCB, 0x3A]
  | .srl_E => [0xCB, 0x3B]
  | .srl_H => [0xCB, 0x3C]
  | .srl_L => [0xCB, 0x3D]
  | .srl_atHL => [0xCB, 0x3E]
  | .srl_A => [0xCB, 0x3F]
  | .bit_b_B b => [0xCB, bitByte 1 b 0]
  | .bit_b_C b => [0xCB, bitByte 1 b 1]
  | .bit_b_D b => [0xCB, bitByte 1 b 2]
  | .bit_b_E b => [0xCB, bitByte 1 b 3]
  | .bit_b_H b => [0xCB, bitByte 1 b 4]
  | .bit_b_L b => [0xCB, bitByte 1 b 5]
  | .bit_b_atHL b => [0xCB, bitByte 1 b 6]
  | .bit_b_A b => [0xCB, bitByte 1 b 7]
  | .res_b_B b => [0xCB, bitByte 2 b 0]
  | .res_b_C b => [0xCB, bitByte 2 b 1]
  | .res_b_D b => [0xCB, bitByte 2 b 2]
  | .res_b_E b => [0xCB, bitByte 2 b 3]
  | .res_b_H b => [0xCB, bitByte 2 b 4]
  | .res_b_L b => [0xCB, bitByte 2 b 5]
  | .res_b_atHL b => [0xCB, bitByte 2 b 6]
  | .res_b_A b => [0xCB, bitByte 2 b 7]
  | .set_b_B b => [0xCB, bitByte 3 b 0]
  | .set_b_C b => [0xCB, bitByte 3 b 1]
  | .set_b_D b => [0xCB, bitByte 3 b 2]
  | .set_b_E b => [0xCB, bitByte 3 b 3]
  | .set_b_H b => [0xCB, bitByte 3 b 4]
  | .set_b_L b => [0xCB, bitByte 3 b 5]
  | .set_b_atHL b => [0xCB, bitByte 3 b 6]
  | .set_b_A b => [0xCB, bitByte 3 b 7]

end Sys2Proof
end

