-- ==== Sys2Proof/Machine/State.lean ====
section
/-! DEFINITION. The state of the machine as plain data (10_state.md R20 to R53), the names its parts are addressed by, the two
fault classes and the state after reset. -/

namespace Sys2Proof.Machine

/-- The six register pairs (R20). -/
inductive Reg16 where
  | AF | BC | DE | HL | SP | PC
deriving DecidableEq, Repr

/-- The byte halves of the pairs (R21). Instructions name only A, B, C, D, E, H, L; F is the flags byte; the halves
of SP and PC are named by R21 alone. -/
inductive Reg8 where
  | A | F | B | C | D | E | H | L | SPh | SPl | PCh | PCl
deriving DecidableEq, Repr

/-- The four flags (R23). -/
inductive Flag where
  | Z | N | H | C
deriving DecidableEq, Repr

/-- The four conditions of conditional transfers (R210). -/
inductive Cond where
  | NZ | Z | NC | C
deriving DecidableEq, Repr

/-- The modes of the graphics timing unit (R49, R331). -/
inductive GfxMode where
  | oamScan | pixelTransfer | hBlank | vBlank
deriving DecidableEq, Repr

/-- The eight windows of the address space (R60). -/
inductive Window where
  | rom | vram | xram | wram | echo | oam | io | hram
deriving DecidableEq, Repr

/-- The two fault classes (R300). The latch of `State.fault` holds one, and `step` answers it in a latched state (R303; log entry 6). -/
inductive Fault where
  /-- R301. Latched by the eleven illegal opcodes, STOP, and any opcode outside IMPLEMENTED or IMPLEMENTED_CB; `op` is the offending
  byte and `addr` the address of the instruction's first byte. Safe: the spec's own fault. -/
  | unimplementedOpcode (op : Byte) (addr : Word)
  /-- R302, R84. Latched by an access outside all windows, which no 16-bit address is. Safe: never raised. -/
  | decodeMiss (addr : Word)
deriving DecidableEq, Repr

/-- Why the model has no meaning for an instruction. -/
inductive Refusal where
  /-- Raised by an arm of `exec` for an instruction the model does not cover; no arm of this model raises it. Safe. -/
  | notModelled (mnemonic : String)
deriving DecidableEq, Repr

/-- A picture of 160 by 144 colours: the pixels that differ from FB_BLANK, each under the key `y * 160 + x`, keys
rising (R50; log entry 15). -/
abbrev Picture := List (Nat × Rgb)

/-- The machine's state. `mem` holds the whole address space, ROM image and device registers included (R32, R33, R60), as the bytes that
differ from `Memory.unlisted`, keys rising; the device registers are its cells. The last two fields are the output traces. -/
structure State where
  /-- The pair AF: A high, flags byte F low (R21, R23). -/
  af : Word
  /-- The pair BC (R21). -/
  bc : Word
  /-- The pair DE (R21). -/
  de : Word
  /-- The pair HL (R21). -/
  hl : Word
  /-- The stack pointer (R26). -/
  sp : Word
  /-- The program counter (R25). -/
  pc : Word
  /-- The interrupt master enable flag (R27). -/
  ime : Bool
  /-- The halted flag (R28). -/
  halted : Bool
  /-- The running cycle counter, unbounded (R29). -/
  cyc : Nat
  /-- The fault latch (R30). -/
  fault : Option Fault
  /-- The address space (R32, R60). -/
  mem : List Host.Cell
  /-- The timer's accumulator toward the next DIV increment (R48). -/
  divAcc : Nat
  /-- The timer's accumulator toward the next TIMA increment (R48). -/
  timaAcc : Nat
  /-- The graphics mode (R49). -/
  mode : GfxMode
  /-- The dot counter (R49). -/
  dot : Nat
  /-- The framebuffer (R50). -/
  fb : Picture
  /-- The bytes of the Diagnostic events emitted so far, oldest first (R74; log entry 10). -/
  diags : List Byte
  /-- The pictures of the Frame events emitted so far, oldest first (R337; log entry 10). -/
  frames : List Picture
deriving DecidableEq, Repr

/-- What every meaning answers. -/
abbrev Out := Host.Outcome State Fault Refusal

/-- The state after reset (R53, R400; DESIGN CHOICE of the spec, D3 and D30; log entries 1 to 3): every register 0x0000, interrupts
disabled, not halted, no fault, every byte of memory as `Memory.unlisted` says (0x00, but IF 0xE0), the graphics unit at the
first dot of OAM-scan, the framebuffer blank, nothing emitted. No ROM image is loaded (log entry 2). -/
def State.reset : State where
  af := 0x0000
  bc := 0x0000
  de := 0x0000
  hl := 0x0000
  sp := 0x0000
  pc := 0x0000
  ime := false
  halted := false
  cyc := 0
  fault := none
  mem := []
  divAcc := 0
  timaAcc := 0
  mode := .oamScan
  dot := 0
  fb := []
  diags := []
  frames := []

end Sys2Proof.Machine
end

