-- ==== Sys2Proof/Machine/Sparse.lean ====
section
/-! DEFINITION. Sparse data in one canonical form: a list of (key, value) pairs, keys rising, no pair equal to what an unlisted key
reads as. Memory (20_memory.md) and the framebuffer (10_state.md R50) are both held so. -/

namespace Sys2Proof.Machine

/-- The value under key `k`; an unlisted key reads as `dflt k`. -/
def Sparse.get {α : Type} (dflt : Nat → α) : List (Nat × α) → Nat → α
  | [], k => dflt k
  | c :: m, k => if c.1 = k then c.2 else Sparse.get dflt m k

/-- Places `v` under key `k` before the first larger key, in place of an equal one. -/
def Sparse.insert {α : Type} : List (Nat × α) → Nat → α → List (Nat × α)
  | [], k, v => [(k, v)]
  | c :: m, k, v =>
    if c.1 < k then c :: Sparse.insert m k v
    else if c.1 = k then (k, v) :: m
    else (k, v) :: c :: m

/-- Stores `v` under key `k`; storing what the unlisted key reads as removes the pair. -/
def Sparse.put {α : Type} [DecidableEq α] (dflt : Nat → α) (m : List (Nat × α)) (k : Nat) (v : α) : List (Nat × α) :=
  if v = dflt k then m.filter (fun c => c.1 ≠ k) else Sparse.insert m k v

/-- The canonical form: keys strictly rising, no pair equal to what its key reads as unlisted. -/
abbrev Sparse.Wf {α : Type} [DecidableEq α] (dflt : Nat → α) (m : List (Nat × α)) : Prop :=
  m.Pairwise (fun c d => c.1 < d.1) ∧ ∀ c ∈ m, c.2 ≠ dflt c.1

end Sys2Proof.Machine
end

