-- ==== Sys2Proof/Machine/Memory.lean ====
section
/-! DEFINITION. The address space: its windows, its storage cells and the bus read (20_memory.md R60 to R71, R75). A cell's key is the
lowest address that reaches it, so the echo window has no keys of its own (R69). -/

namespace Sys2Proof.Machine

/-- 0xFF0F, the interrupt-flag register IF (R41). -/
def ifAddr : Nat := 0xFF0F
/-- 0xFFFF, the interrupt-enable register IE (R42). -/
def ieAddr : Nat := 0xFFFF
/-- 0xFF01, serial data SB (R35). -/
def sbAddr : Nat := 0xFF01
/-- 0xFF02, serial control SC (R36). -/
def scAddr : Nat := 0xFF02
/-- 0xFF04, the divider DIV (R37). -/
def divAddr : Nat := 0xFF04
/-- 0xFF05, the counter TIMA (R38). -/
def timaAddr : Nat := 0xFF05
/-- 0xFF06, the modulo TMA (R39). -/
def tmaAddr : Nat := 0xFF06
/-- 0xFF07, the timer control TAC (R40). -/
def tacAddr : Nat := 0xFF07
/-- 0xFF40, the LCD control LCDC (R43). -/
def lcdcAddr : Nat := 0xFF40
/-- 0xFF42, the vertical scroll SCY (R44). -/
def scyAddr : Nat := 0xFF42
/-- 0xFF43, the horizontal scroll SCX (R44). -/
def scxAddr : Nat := 0xFF43
/-- 0xFF44, the scanline register LY (R45). -/
def lyAddr : Nat := 0xFF44
/-- 0xFF47, the background palette BGP (R46). -/
def bgpAddr : Nat := 0xFF47

/-- What an unlisted cell reads as: the reset contents of R53, 0x00 everywhere but IF, 0xE0 (DESIGN CHOICE of the spec, D3 and D30;
unsafe; log entries 1 to 3). -/
def Memory.unlisted (k : Nat) : Byte := if k = ifAddr then 0xE0 else 0x00

/-- The window of an address (R60). The last arm is the access "outside all defined windows" of R84, which
no 16-bit address reaches. -/
def Window.ofAddr (a : Word) : Option Window :=
  let n := a.toNat
  if n < 0x8000 then some .rom
  else if n < 0xA000 then some .vram
  else if n < 0xC000 then some .xram
  else if n < 0xE000 then some .wram
  else if n < 0xFE00 then some .echo
  else if n < 0xFF00 then some .oam
  else if n < 0xFF80 then some .io
  else if n < 0x10000 then some .hram
  else none

/-- The key of the cell behind address `a`: the address itself, but for the echo window the work-RAM address 0x2000 below it (R69). -/
def Memory.home (a : Word) : Nat :=
  if 0xE000 ≤ a.toNat ∧ a.toNat < 0xFE00 then a.toNat - 0x2000 else a.toNat

/-- Some address has key `k`. -/
abbrev Memory.IsHome (k : Nat) : Prop := k < 0xE000 ∨ (0xFE00 ≤ k ∧ k < 0x10000)

/-- The stored byte of cell `k`, as a device reads it (`DevRead`, R77). -/
def Memory.peek (m : List Host.Cell) (k : Nat) : Byte := Sparse.get Memory.unlisted m k

/-- Stores `v` in cell `k`, as a device does, with no side effect (R76, R77). -/
def Memory.poke (m : List Host.Cell) (k : Nat) (v : Byte) : List Host.Cell := Sparse.put Memory.unlisted m k v

/-- The canonical form of memory: `Sparse.Wf`, and every key is the key of some address. -/
abbrev Memory.wf (m : List Host.Cell) : Prop := Sparse.Wf Memory.unlisted m ∧ ∀ c ∈ m, Memory.IsHome c.1

/-- The bus read `MemRead(addr, 1)` (R61): the byte the address's window gives, no state changed. Every window is plain storage on a read
(R64, R66 to R71, R75); the echo reads work RAM (R69). -/
def Memory.busRead (m : List Host.Cell) (a : Word) : Option Byte :=
  match Window.ofAddr a with
  | some .rom => some (Memory.peek m a.toNat)
  | some .vram => some (Memory.peek m a.toNat)
  | some .xram => some (Memory.peek m a.toNat)
  | some .wram => some (Memory.peek m a.toNat)
  | some .echo => some (Memory.peek m (a.toNat - 0x2000))
  | some .oam => some (Memory.peek m a.toNat)
  | some .io => some (Memory.peek m a.toNat)
  | some .hram => some (Memory.peek m a.toNat)
  | none => none

end Sys2Proof.Machine
end

