-- ==== Sys2Proof/Machine/Ops.lean ====
section
/-! DEFINITION. The named operations over registers and memory: register access, the bus write with its side effects, reading through the
bus, fetch, the stack, taking a fault, taking an interrupt and returning from one. -/

namespace Sys2Proof.Machine

/-! ### Words and bytes -/

/-- The high byte of a word. -/
def hiByte (w : Word) : Byte := w.extractLsb' 8 8

/-- The low byte of a word. -/
def loByte (w : Word) : Byte := w.extractLsb' 0 8

/-- The word `{hi, lo}` (R10). -/
def mkWord (hi lo : Byte) : Word := hi ++ lo

/-- `sext_16` of a displacement byte (R10, R103). -/
def sext16 (e : Byte) : Word := e.signExtend 16

/-- `zext_16` of a byte (R10). -/
def zext16 (v : Byte) : Word := v.setWidth 16

/-! ### Registers -/

/-- Reads a register pair (R20). -/
def State.r16 (s : State) : Reg16 → Word
  | .AF => s.af
  | .BC => s.bc
  | .DE => s.de
  | .HL => s.hl
  | .SP => s.sp
  | .PC => s.pc

/-- Writes a register pair (R20); a write to AF clears bits 3..0 of F (R23). -/
def State.setR16 (s : State) (p : Reg16) (v : Word) : State :=
  match p with
  | .AF => { s with af := v &&& 0xFFF0 }
  | .BC => { s with bc := v }
  | .DE => { s with de := v }
  | .HL => { s with hl := v }
  | .SP => { s with sp := v }
  | .PC => { s with pc := v }

/-- The pair a byte half belongs to (R21). -/
def Reg8.pair : Reg8 → Reg16
  | .A => .AF
  | .F => .AF
  | .B => .BC
  | .C => .BC
  | .D => .DE
  | .E => .DE
  | .H => .HL
  | .L => .HL
  | .SPh => .SP
  | .SPl => .SP
  | .PCh => .PC
  | .PCl => .PC

/-- Whether a byte half is the high one of its pair (R21). -/
def Reg8.isHigh : Reg8 → Bool
  | .A => true
  | .F => false
  | .B => true
  | .C => false
  | .D => true
  | .E => false
  | .H => true
  | .L => false
  | .SPh => true
  | .SPl => false
  | .PCh => true
  | .PCl => false

/-- Reads a byte half (R21). -/
def State.r8 (s : State) (x : Reg8) : Byte :=
  if x.isHigh then hiByte (s.r16 x.pair) else loByte (s.r16 x.pair)

/-- Writes a byte half and leaves the other half as it was (R21, R22); a write to F clears its bits 3..0 (R23). -/
def State.setR8 (s : State) (x : Reg8) (v : Byte) : State :=
  match x with
  | .A => { s with af := mkWord v (loByte s.af) }
  | .F => { s with af := mkWord (hiByte s.af) (v &&& 0xF0) }
  | .B => { s with bc := mkWord v (loByte s.bc) }
  | .C => { s with bc := mkWord (hiByte s.bc) v }
  | .D => { s with de := mkWord v (loByte s.de) }
  | .E => { s with de := mkWord (hiByte s.de) v }
  | .H => { s with hl := mkWord v (loByte s.hl) }
  | .L => { s with hl := mkWord (hiByte s.hl) v }
  | .SPh => { s with sp := mkWord v (loByte s.sp) }
  | .SPl => { s with sp := mkWord (hiByte s.sp) v }
  | .PCh => { s with pc := mkWord v (loByte s.pc) }
  | .PCl => { s with pc := mkWord (hiByte s.pc) v }

/-- Advances PC past `n` fetched bytes, wrapping (R25, R103). -/
def State.advance (s : State) (n : Nat) : State := { s with pc := s.pc + BitVec.ofNat 16 n }

/-! ### Taking a fault -/

/-- `raise`: sets the fault latch, which is never cleared and never changed once set (R30, R301, R302). -/
def State.raise (s : State) (f : Fault) : State :=
  { s with fault := match s.fault with
      | some g => some g
      | none => some f }

/-- Taking the unimplemented-opcode fault (R266, R301): `op` is the offending byte, PC ends `n` bytes past the instruction's first byte,
and that byte's address is recorded; nothing else changes. -/
def State.unimplemented (s : State) (op : Byte) (n : Nat) : State :=
  (s.advance n).raise (.unimplementedOpcode op s.pc)

/-! ### The bus and the cells behind it -/

/-- The byte of the cell behind address `a`; `busRead` answers exactly it (Laws/Memory.lean). -/
def State.byte (s : State) (a : Word) : Byte := Memory.peek s.mem (Memory.home a)

/-- A device's read of cell `k` (R77). -/
def State.dev (s : State) (k : Nat) : Byte := Memory.peek s.mem k

/-- A device's store into cell `k` (R76, R77). -/
def State.devWrite (s : State) (k : Nat) (v : Byte) : State := { s with mem := Memory.poke s.mem k v }

/-- Goes on with the byte the bus reads at `a` (R61); an address outside all windows would be the fault of R84. -/
def State.readThen (s : State) (a : Word) (k : Byte → State) : State :=
  match Memory.busRead s.mem a with
  | some v => k v
  | none => s.raise (.decodeMiss a)

/-- Goes on with the word the bus reads at `a`: the low byte at `a`, then the high byte at `a + 1`, wrapping (R63). -/
def State.readWordThen (s : State) (a : Word) (k : Word → State) : State :=
  s.readThen a fun lo => s.readThen (a + 1) fun hi => k (mkWord hi lo)

/-- `emit Diagnostic(b)` (R74). -/
def State.emitDiag (s : State) (b : Byte) : State := { s with diags := s.diags ++ [b] }

/-- A CPU write into the I/O window (R71) with its three special addresses: LY ignores it (R72), IF forces bits 7..5 (R73), and
0x81 to SC, stored as any byte, also emits SB (R74). -/
def State.ioWrite (s : State) (k : Nat) (v : Byte) : State :=
  if k = lyAddr then s
  else if k = ifAddr then s.devWrite k (v ||| 0xE0)
  else if k = scAddr then
    if v = 0x81 then (s.devWrite k v).emitDiag ((s.devWrite k v).dev sbAddr) else s.devWrite k v
  else s.devWrite k v

/-- The bus write `MemWrite(addr, 1, v)` (R62): the effect of the address's window. The cartridge ignores it (R65), the echo stores
into work RAM (R69), the I/O window has its own rules, every other window stores (R66 to R68, R70, R75). -/
def State.write (s : State) (a : Word) (v : Byte) : State :=
  match Window.ofAddr a with
  | some .rom => s
  | some .vram => s.devWrite a.toNat v
  | some .xram => s.devWrite a.toNat v
  | some .wram => s.devWrite a.toNat v
  | some .echo => s.devWrite (a.toNat - 0x2000) v
  | some .oam => s.devWrite a.toNat v
  | some .io => s.ioWrite a.toNat v
  | some .hram => s.devWrite a.toNat v
  | none => s.raise (.decodeMiss a)

/-- `MemWrite(addr, 2, v)`: the low byte at `a`, then the high byte at `a + 1`, wrapping, each with its own effect (R63). -/
def State.writeWord (s : State) (a : Word) (v : Word) : State :=
  (s.write a (loByte v)).write (a + 1) (hiByte v)

/-! ### The stack -/

/-- `Push16` (R149): SP down by 2, then the low byte at the new SP and the high byte above it. -/
def State.push16 (s : State) (v : Word) : State :=
  { s with sp := s.sp - 2 }.writeWord (s.sp - 2) v

/-- `Pop16` (R149): the word at SP, then SP up by 2; goes on with the word and the state after. -/
def State.popThen (s : State) (k : Word → State → State) : State :=
  s.readWordThen s.sp fun v => k v { s with sp := s.sp + 2 }

/-! ### Taking an interrupt and returning from one -/

/-- The vector of source `i` (R310). -/
def interruptVector (i : Nat) : Word := BitVec.ofNat 16 (0x0040 + 8 * i)

/-- Taking interrupt `i` (R313, R315): pushes PC, goes to the vector, clears IME and then bit `i` of IF as it is after the push, and
adds INT_DISPATCH_CYCLES to the counter. Nothing else is saved. -/
def State.takeInterrupt (s : State) (i : Nat) : State :=
  let p := s.push16 s.pc
  let q := { p with pc := interruptVector i, ime := false }
  let r := q.devWrite ifAddr (q.dev ifAddr &&& ~~~(BitVec.ofNat 8 (2 ^ i)))
  { r with cyc := r.cyc + Config.intDispatchCycles }

/-- The return from an interrupt handler (R220, R316): pops PC and sets IME; nothing else is restored. -/
def State.returnFromInterrupt (s : State) : State :=
  s.popThen fun v t => { t with pc := v, ime := true }

end Sys2Proof.Machine
end

