-- ==== Sys2Proof/Machine/Flags.lean ====
section
/-! DEFINITION. The flags byte (10_state.md R23, R24), every flag computation the spec gives (R160 to R162, R187, R189, R191, R200, R201,
R231), and the conditions (R210). Arithmetic is exact, over the natural numbers, and narrowed at the end (R10). -/

namespace Sys2Proof.Machine

/-- The bit of F that holds a flag (R23). -/
def Flag.bit : Flag → Nat
  | .Z => 7
  | .N => 6
  | .H => 5
  | .C => 4

/-- `check(flag)` (R24). -/
def State.flag (s : State) (f : Flag) : Bool := (s.r8 .F).getLsbD f.bit

/-- `set_flag(flag)` (R24). -/
def State.setFlag (s : State) (f : Flag) : State := s.setR8 .F (s.r8 .F ||| BitVec.ofNat 8 (2 ^ f.bit))

/-- `clear_flag(flag)` (R24). -/
def State.clearFlag (s : State) (f : Flag) : State := s.setR8 .F (s.r8 .F &&& ~~~(BitVec.ofNat 8 (2 ^ f.bit)))

/-- The flags byte of four flags, its bits 3..0 zero (R23). -/
def flagsByte (z n h c : Bool) : Byte :=
  BitVec.ofBool z ++ BitVec.ofBool n ++ BitVec.ofBool h ++ BitVec.ofBool c ++ (0 : BitVec 4)

/-- Writes all four flags; a rule that keeps a flag hands in its old value. -/
def State.setFlags (s : State) (z n h c : Bool) : State := s.setR8 .F (flagsByte z n h c)

/-- A condition of a conditional transfer (R210). -/
def State.cond (s : State) : Cond → Bool
  | .NZ => !s.flag .Z
  | .Z => s.flag .Z
  | .NC => !s.flag .C
  | .C => s.flag .C

/-- The result byte and the four flags of an operation. -/
structure Flagged where
  res : Byte
  z : Bool
  n : Bool
  h : Bool
  c : Bool
deriving DecidableEq, Repr

/-- `Add8(a, v, cin)` (R160). -/
def add8 (a v : Byte) (cin : Bool) : Flagged :=
  let sum := a.toNat + v.toNat + cin.toNat
  let res := BitVec.ofNat 8 sum
  { res := res
    z := res = 0
    n := false
    h := a.toNat % 16 + v.toNat % 16 + cin.toNat > 0x0F
    c := sum > 0xFF }

/-- `Sub8(a, v, cin)` (R161): H and C are borrows. -/
def sub8 (a v : Byte) (cin : Bool) : Flagged :=
  let res := BitVec.ofInt 8 ((a.toNat : Int) - v.toNat - cin.toNat)
  { res := res
    z := res = 0
    n := true
    h := a.toNat % 16 < v.toNat % 16 + cin.toNat
    c := a.toNat < v.toNat + cin.toNat }

/-- `Logic8` (R162) of a result already combined: `h` is set for AND alone. -/
def logic8 (res : Byte) (h : Bool) : Flagged :=
  { res := res, z := res = 0, n := false, h := h, c := false }

/-- The eight operations against A (R102), in the order of their codes. -/
inductive AluOp where
  | add | adc | sub | sbc | and | xor | or | cp
deriving DecidableEq, Repr

/-- The result and flags of an operation against A (R160 to R186); `cin` is the Carry flag before. -/
def AluOp.apply (op : AluOp) (a v : Byte) (cin : Bool) : Flagged :=
  match op with
  | .add => add8 a v false
  | .adc => add8 a v cin
  | .sub => sub8 a v false
  | .sbc => sub8 a v cin
  | .and => logic8 (a &&& v) true
  | .xor => logic8 (a ^^^ v) false
  | .or => logic8 (a ||| v) false
  | .cp => sub8 a v false

/-- Whether the result is stored in A: CP discards it (R184). -/
def AluOp.storesResult : AluOp → Bool
  | .cp => false
  | _ => true

/-- An 8-bit increment (R187); Carry is handed through. -/
def inc8 (v : Byte) (c : Bool) : Flagged :=
  let res := BitVec.ofNat 8 (v.toNat + 1)
  { res := res, z := res = 0, n := false, h := v.toNat % 16 = 0x0F, c := c }

/-- An 8-bit decrement (R189); Carry is handed through. -/
def dec8 (v : Byte) (c : Bool) : Flagged :=
  let res := BitVec.ofInt 8 ((v.toNat : Int) - 1)
  { res := res, z := res = 0, n := true, h := v.toNat % 16 = 0x00, c := c }

/-- The decimal adjustment of A (R191) from the flags N, H, C before it. Both tests of the addition branch look at the A of before; after
a subtraction Carry is never changed; N is handed through and H cleared. -/
def daa8 (a : Byte) (n h c : Bool) : Flagged :=
  let low : Nat := if h ∨ (n = false ∧ a.toNat % 16 > 0x09) then 0x06 else 0x00
  let high : Nat := if c ∨ (n = false ∧ a.toNat > 0x99) then 0x60 else 0x00
  let res : Byte :=
    if n then BitVec.ofInt 8 ((a.toNat : Int) - (low + high : Nat)) else BitVec.ofNat 8 (a.toNat + (low + high))
  { res := res
    z := res = 0
    n := n
    h := false
    c := c ∨ (n = false ∧ a.toNat > 0x99) }

/-- The eight shift functions (R102, R231), in the order of their codes. -/
inductive Shift where
  | rlc | rrc | rl | rr | sla | sra | swap | srl
deriving DecidableEq, Repr

/-- The result byte of a shift function (R231). -/
def Shift.res (f : Shift) (v : Byte) (cin : Bool) : Byte :=
  match f with
  | .rlc => v.extractLsb' 0 7 ++ v.extractLsb' 7 1
  | .rrc => v.extractLsb' 0 1 ++ v.extractLsb' 1 7
  | .rl => v.extractLsb' 0 7 ++ BitVec.ofBool cin
  | .rr => BitVec.ofBool cin ++ v.extractLsb' 1 7
  | .sla => v.extractLsb' 0 7 ++ (0 : BitVec 1)
  | .sra => v.extractLsb' 7 1 ++ v.extractLsb' 1 7
  | .swap => v.extractLsb' 0 4 ++ v.extractLsb' 4 4
  | .srl => (0 : BitVec 1) ++ v.extractLsb' 1 7

/-- The bit a shift function moves out (R231). -/
def Shift.cout (f : Shift) (v : Byte) : Bool :=
  match f with
  | .rlc => v.getLsbD 7
  | .rrc => v.getLsbD 0
  | .rl => v.getLsbD 7
  | .rr => v.getLsbD 0
  | .sla => v.getLsbD 7
  | .sra => v.getLsbD 0
  | .swap => false
  | .srl => v.getLsbD 0

/-- H of `ADD HL,rr`: the carry out of bit 11 (R201). -/
def addHLHalf (a v : Word) : Bool := a.toNat % 0x1000 + v.toNat % 0x1000 > 0x0FFF

/-- C of `ADD HL,rr`: the carry out of bit 15 (R201). -/
def addHLCarry (a v : Word) : Bool := a.toNat + v.toNat > 0xFFFF

/-- H of `SP + e`: the carry out of bit 3 of the low byte of SP plus the raw byte (R200). -/
def spOffsetHalf (sp : Word) (e : Byte) : Bool := sp.toNat % 16 + e.toNat % 16 > 0x0F

/-- C of `SP + e`: the carry out of bit 7 of the low byte of SP plus the raw byte (R200). -/
def spOffsetCarry (sp : Word) (e : Byte) : Bool := sp.toNat % 256 + e.toNat > 0xFF

end Sys2Proof.Machine
end

