-- ==== Sys2Proof/Machine/Cycles.lean ====
section
/-! DEFINITION. CYCLES, the cost table (30_encoding.md R105, R106, R111; DESIGN CHOICE of the spec, D2; unsafe; log entry 4). -/

namespace Sys2Proof.Machine

/-- The cost of an instruction: one figure, or for a conditional transfer the condition and the two figures, taken and not taken. -/
inductive Cost where
  | fixed (cycles : Nat)
  | branch (cc : Cond) (taken notTaken : Nat)
deriving DecidableEq, Repr

/-- The cycles of a cost in state `s`. No conditional transfer writes a flag, so `s` may be the state before or after (44_control.md). -/
def Cost.cycles (c : Cost) (s : State) : Nat :=
  match c with
  | .fixed n => n
  | .branch cc taken notTaken => if s.cond cc then taken else notTaken

/-- The cost of a second byte of the extended map by its fields (R106): 8 on a register; on (HL) 12 for BIT and 16 for the rest. -/
def extendedCycles (op2 : Byte) : Nat :=
  if op2.toNat % 8 ≠ 6 then 8 else if op2.toNat / 64 = 1 then 12 else 16

/-- CYCLES (R105, R106). An instruction that takes the fault of R301 adds none. -/
def cost : Instr → Cost
  | .nop => .fixed 4
  | .ld_BC_nn _ => .fixed 12
  | .ld_atBC_A => .fixed 8
  | .inc_BC => .fixed 8
  | .inc_B => .fixed 4
  | .dec_B => .fixed 4
  | .ld_B_n _ => .fixed 8
  | .rlca => .fixed 4
  | .ld_atnn_SP _ => .fixed 20
  | .add_HL_BC => .fixed 8
  | .ld_A_atBC => .fixed 8
  | .dec_BC => .fixed 8
  | .inc_C => .fixed 4
  | .dec_C => .fixed 4
  | .ld_C_n _ => .fixed 8
  | .rrca => .fixed 4
  | .stop _ => .fixed 0
  | .ld_DE_nn _ => .fixed 12
  | .ld_atDE_A => .fixed 8
  | .inc_DE => .fixed 8
  | .inc_D => .fixed 4
  | .dec_D => .fixed 4
  | .ld_D_n _ => .fixed 8
  | .rla => .fixed 4
  | .jr_e _ => .fixed 12
  | .add_HL_DE => .fixed 8
  | .ld_A_atDE => .fixed 8
  | .dec_DE => .fixed 8
  | .inc_E => .fixed 4
  | .dec_E => .fixed 4
  | .ld_E_n _ => .fixed 8
  | .rra => .fixed 4
  | .jr_NZ_e _ => .branch .NZ 12 8
  | .ld_HL_nn _ => .fixed 12
  | .ldi_atHL_A => .fixed 8
  | .inc_HL => .fixed 8
  | .inc_H => .fixed 4
  | .dec_H => .fixed 4
  | .ld_H_n _ => .fixed 8
  | .daa => .fixed 4
  | .jr_Z_e _ => .branch .Z 12 8
  | .add_HL_HL => .fixed 8
  | .ldi_A_atHL => .fixed 8
  | .dec_HL => .fixed 8
  | .inc_L => .fixed 4
  | .dec_L => .fixed 4
  | .ld_L_n _ => .fixed 8
  | .cpl => .fixed 4
  | .jr_NC_e _ => .branch .NC 12 8
  | .ld_SP_nn _ => .fixed 12
  | .ldd_atHL_A => .fixed 8
  | .inc_SP => .fixed 8
  | .inc_atHL => .fixed 12
  | .dec_atHL => .fixed 12
  | .ld_atHL_n _ => .fixed 12
  | .scf => .fixed 4
  | .jr_C_e _ => .branch .C 12 8
  | .add_HL_SP => .fixed 8
  | .ldd_A_atHL => .fixed 8
  | .dec_SP => .fixed 8
  | .inc_A => .fixed 4
  | .dec_A => .fixed 4
  | .ld_A_n _ => .fixed 8
  | .ccf => .fixed 4
  | .ld_B_B => .fixed 4
  | .ld_B_C => .fixed 4
  | .ld_B_D => .fixed 4
  | .ld_B_E => .fixed 4
  | .ld_B_H => .fixed 4
  | .ld_B_L => .fixed 4
  | .ld_B_atHL => .fixed 8
  | .ld_B_A => .fixed 4
  | .ld_C_B => .fixed 4
  | .ld_C_C => .fixed 4
  | .ld_C_D => .fixed 4
  | .ld_C_E => .fixed 4
  | .ld_C_H => .fixed 4
  | .ld_C_L => .fixed 4
  | .ld_C_atHL => .fixed 8
  | .ld_C_A => .fixed 4
  | .ld_D_B => .fixed 4
  | .ld_D_C => .fixed 4
  | .ld_D_D => .fixed 4
  | .ld_D_E => .fixed 4
  | .ld_D_H => .fixed 4
  | .ld_D_L => .fixed 4
  | .ld_D_atHL => .fixed 8
  | .ld_D_A => .fixed 4
  | .ld_E_B => .fixed 4
  | .ld_E_C => .fixed 4
  | .ld_E_D => .fixed 4
  | .ld_E_E => .fixed 4
  | .ld_E_H => .fixed 4
  | .ld_E_L => .fixed 4
  | .ld_E_atHL => .fixed 8
  | .ld_E_A => .fixed 4
  | .ld_H_B => .fixed 4
  | .ld_H_C => .fixed 4
  | .ld_H_D => .fixed 4
  | .ld_H_E => .fixed 4
  | .ld_H_H => .fixed 4
  | .ld_H_L => .fixed 4
  | .ld_H_atHL => .fixed 8
  | .ld_H_A => .fixed 4
  | .ld_L_B => .fixed 4
  | .ld_L_C => .fixed 4
  | .ld_L_D => .fixed 4
  | .ld_L_E => .fixed 4
  | .ld_L_H => .fixed 4
  | .ld_L_L => .fixed 4
  | .ld_L_atHL => .fixed 8
  | .ld_L_A => .fixed 4
  | .ld_atHL_B => .fixed 8
  | .ld_atHL_C => .fixed 8
  | .ld_atHL_D => .fixed 8
  | .ld_atHL_E => .fixed 8
  | .ld_atHL_H => .fixed 8
  | .ld_atHL_L => .fixed 8
  | .halt => .fixed 4
  | .ld_atHL_A => .fixed 8
  | .ld_A_B => .fixed 4
  | .ld_A_C => .fixed 4
  | .ld_A_D => .fixed 4
  | .ld_A_E => .fixed 4
  | .ld_A_H => .fixed 4
  | .ld_A_L => .fixed 4
  | .ld_A_atHL => .fixed 8
  | .ld_A_A => .fixed 4
  | .add_A_B => .fixed 4
  | .add_A_C => .fixed 4
  | .add_A_D => .fixed 4
  | .add_A_E => .fixed 4
  | .add_A_H => .fixed 4
  | .add_A_L => .fixed 4
  | .add_A_atHL => .fixed 8
  | .add_A_A => .fixed 4
  | .adc_A_B => .fixed 4
  | .adc_A_C => .fixed 4
  | .adc_A_D => .fixed 4
  | .adc_A_E => .fixed 4
  | .adc_A_H => .fixed 4
  | .adc_A_L => .fixed 4
  | .adc_A_atHL => .fixed 8
  | .adc_A_A => .fixed 4
  | .sub_B => .fixed 4
  | .sub_C => .fixed 4
  | .sub_D => .fixed 4
  | .sub_E => .fixed 4
  | .sub_H => .fixed 4
  | .sub_L => .fixed 4
  | .sub_atHL => .fixed 8
  | .sub_A => .fixed 4
  | .sbc_A_B => .fixed 4
  | .sbc_A_C => .fixed 4
  | .sbc_A_D => .fixed 4
  | .sbc_A_E => .fixed 4
  | .sbc_A_H => .fixed 4
  | .sbc_A_L => .fixed 4
  | .sbc_A_atHL => .fixed 8
  | .sbc_A_A => .fixed 4
  | .and_B => .fixed 4
  | .and_C => .fixed 4
  | .and_D => .fixed 4
  | .and_E => .fixed 4
  | .and_H => .fixed 4
  | .and_L => .fixed 4
  | .and_atHL => .fixed 8
  | .and_A => .fixed 4
  | .xor_B => .fixed 4
  | .xor_C => .fixed 4
  | .xor_D => .fixed 4
  | .xor_E => .fixed 4
  | .xor_H => .fixed 4
  | .xor_L => .fixed 4
  | .xor_atHL => .fixed 8
  | .xor_A => .fixed 4
  | .or_B => .fixed 4
  | .or_C => .fixed 4
  | .or_D => .fixed 4
  | .or_E => .fixed 4
  | .or_H => .fixed 4
  | .or_L => .fixed 4
  | .or_atHL => .fixed 8
  | .or_A => .fixed 4
  | .cp_B => .fixed 4
  | .cp_C => .fixed 4
  | .cp_D => .fixed 4
  | .cp_E => .fixed 4
  | .cp_H => .fixed 4
  | .cp_L => .fixed 4
  | .cp_atHL => .fixed 8
  | .cp_A => .fixed 4
  | .ret_NZ => .branch .NZ 20 8
  | .pop_BC => .fixed 12
  | .jp_NZ_nn _ => .branch .NZ 16 12
  | .jp_nn _ => .fixed 16
  | .call_NZ_nn _ => .branch .NZ 24 12
  | .push_BC => .fixed 16
  | .add_A_n _ => .fixed 8
  | .rst_00H => .fixed 16
  | .ret_Z => .branch .Z 20 8
  | .ret => .fixed 16
  | .jp_Z_nn _ => .branch .Z 16 12
  | .prefixCB op2 => .fixed (extendedCycles op2)
  | .call_Z_nn _ => .branch .Z 24 12
  | .call_nn _ => .fixed 24
  | .adc_A_n _ => .fixed 8
  | .rst_08H => .fixed 16
  | .ret_NC => .branch .NC 20 8
  | .pop_DE => .fixed 12
  | .jp_NC_nn _ => .branch .NC 16 12
  | .illegal_D3 => .fixed 0
  | .call_NC_nn _ => .branch .NC 24 12
  | .push_DE => .fixed 16
  | .sub_n _ => .fixed 8
  | .rst_10H => .fixed 16
  | .ret_C => .branch .C 20 8
  | .reti => .fixed 16
  | .jp_C_nn _ => .branch .C 16 12
  | .illegal_DB => .fixed 0
  | .call_C_nn _ => .branch .C 24 12
  | .illegal_DD => .fixed 0
  | .sbc_A_n _ => .fixed 8
  | .rst_18H => .fixed 16
  | .ldh_atn_A _ => .fixed 12
  | .pop_HL => .fixed 12
  | .ld_atC_A => .fixed 8
  | .illegal_E3 => .fixed 0
  | .illegal_E4 => .fixed 0
  | .push_HL => .fixed 16
  | .and_n _ => .fixed 8
  | .rst_20H => .fixed 16
  | .add_SP_e _ => .fixed 16
  | .jp_HL => .fixed 4
  | .ld_atnn_A _ => .fixed 16
  | .illegal_EB => .fixed 0
  | .illegal_EC => .fixed 0
  | .illegal_ED => .fixed 0
  | .xor_n _ => .fixed 8
  | .rst_28H => .fixed 16
  | .ldh_A_atn _ => .fixed 12
  | .pop_AF => .fixed 12
  | .ld_A_atC => .fixed 8
  | .di => .fixed 4
  | .illegal_F4 => .fixed 0
  | .push_AF => .fixed 16
  | .or_n _ => .fixed 8
  | .rst_30H => .fixed 16
  | .ld_HL_SPe _ => .fixed 12
  | .ld_SP_HL => .fixed 8
  | .ld_A_atnn _ => .fixed 16
  | .ei => .fixed 4
  | .illegal_FC => .fixed 0
  | .illegal_FD => .fixed 0
  | .cp_n _ => .fixed 8
  | .rst_38H => .fixed 16
  | .rlc_B => .fixed 8
  | .rlc_C => .fixed 8
  | .rlc_D => .fixed 8
  | .rlc_E => .fixed 8
  | .rlc_H => .fixed 8
  | .rlc_L => .fixed 8
  | .rlc_atHL => .fixed 16
  | .rlc_A => .fixed 8
  | .rrc_B => .fixed 8
  | .rrc_C => .fixed 8
  | .rrc_D => .fixed 8
  | .rrc_E => .fixed 8
  | .rrc_H => .fixed 8
  | .rrc_L => .fixed 8
  | .rrc_atHL => .fixed 16
  | .rrc_A => .fixed 8
  | .rl_B => .fixed 8
  | .rl_C => .fixed 8
  | .rl_D => .fixed 8
  | .rl_E => .fixed 8
  | .rl_H => .fixed 8
  | .rl_L => .fixed 8
  | .rl_atHL => .fixed 16
  | .rl_A => .fixed 8
  | .rr_B => .fixed 8
  | .rr_C => .fixed 8
  | .rr_D => .fixed 8
  | .rr_E => .fixed 8
  | .rr_H => .fixed 8
  | .rr_L => .fixed 8
  | .rr_atHL => .fixed 16
  | .rr_A => .fixed 8
  | .sla_B => .fixed 8
  | .sla_C => .fixed 8
  | .sla_D => .fixed 8
  | .sla_E => .fixed 8
  | .sla_H => .fixed 8
  | .sla_L => .fixed 8
  | .sla_atHL => .fixed 16
  | .sla_A => .fixed 8
  | .sra_B => .fixed 8
  | .sra_C => .fixed 8
  | .sra_D => .fixed 8
  | .sra_E => .fixed 8
  | .sra_H => .fixed 8
  | .sra_L => .fixed 8
  | .sra_atHL => .fixed 16
  | .sra_A => .fixed 8
  | .swap_B => .fixed 8
  | .swap_C => .fixed 8
  | .swap_D => .fixed 8
  | .swap_E => .fixed 8
  | .swap_H => .fixed 8
  | .swap_L => .fixed 8
  | .swap_atHL => .fixed 16
  | .swap_A => .fixed 8
  | .srl_B => .fixed 8
  | .srl_C => .fixed 8
  | .srl_D => .fixed 8
  | .srl_E => .fixed 8
  | .srl_H => .fixed 8
  | .srl_L => .fixed 8
  | .srl_atHL => .fixed 16
  | .srl_A => .fixed 8
  | .bit_b_B _ => .fixed 8
  | .bit_b_C _ => .fixed 8
  | .bit_b_D _ => .fixed 8
  | .bit_b_E _ => .fixed 8
  | .bit_b_H _ => .fixed 8
  | .bit_b_L _ => .fixed 8
  | .bit_b_atHL _ => .fixed 12
  | .bit_b_A _ => .fixed 8
  | .res_b_B _ => .fixed 8
  | .res_b_C _ => .fixed 8
  | .res_b_D _ => .fixed 8
  | .res_b_E _ => .fixed 8
  | .res_b_H _ => .fixed 8
  | .res_b_L _ => .fixed 8
  | .res_b_atHL _ => .fixed 16
  | .res_b_A _ => .fixed 8
  | .set_b_B _ => .fixed 8
  | .set_b_C _ => .fixed 8
  | .set_b_D _ => .fixed 8
  | .set_b_E _ => .fixed 8
  | .set_b_H _ => .fixed 8
  | .set_b_L _ => .fixed 8
  | .set_b_atHL _ => .fixed 16
  | .set_b_A _ => .fixed 8

end Sys2Proof.Machine
end

