-- ==== Sys2Proof/Machine/Operands.lean ====
section
/-! DEFINITION. Operand forms: the byte accessor (45_rotate_shift_bit.md R230) with the immediate beside it, the operand codes of the
extended map (30_encoding.md R102), and the addresses instructions form (40_load8.md). -/

namespace Sys2Proof.Machine

/-- Where an 8-bit operand is: in a register, in memory at an address, or in the instruction itself. -/
inductive Operand8 where
  | reg (r : Reg8)
  | mem (a : Word)
  | imm (n : Byte)
deriving DecidableEq, Repr

/-- Goes on with the operand's byte (`Get`, R230). -/
def State.getThen (s : State) (o : Operand8) (k : Byte → State) : State :=
  match o with
  | .reg r => k (s.r8 r)
  | .mem a => s.readThen a k
  | .imm n => k n

/-- Stores into the operand (`Set`, R230): a memory store has the bus's side effects. No instruction stores into an immediate. -/
def State.setOperand (s : State) (o : Operand8) (v : Byte) : State :=
  match o with
  | .reg r => s.setR8 r v
  | .mem a => s.write a v
  | .imm _ => s

/-- The operand of code `z` (R102, R230): code 6 is the byte at HL, HL read when the instruction starts. -/
def operandOf (s : State) (z : BitVec 3) : Operand8 :=
  match z.toNat with
  | 0 => .reg .B
  | 1 => .reg .C
  | 2 => .reg .D
  | 3 => .reg .E
  | 4 => .reg .H
  | 5 => .reg .L
  | 6 => .mem s.hl
  | _ => .reg .A

/-- The shift function of code `y` (R102). -/
def shiftOf (y : BitVec 3) : Shift :=
  match y.toNat with
  | 0 => .rlc
  | 1 => .rrc
  | 2 => .rl
  | 3 => .rr
  | 4 => .sla
  | 5 => .sra
  | 6 => .swap
  | _ => .srl

/-- The high-page address `0xFF00 + n` (R141 to R144). -/
def highPage (n : Byte) : Word := 0xFF00 + zext16 n

end Sys2Proof.Machine
end

