-- ==== Sys2Proof/Machine/Alu16.lean ====
section
/-! DEFINITION. 16-bit arithmetic (43_alu16.md R200 to R205). -/

namespace Sys2Proof.Machine

/-- `ADD HL,rr` (R201): Z stays, N is cleared. -/
def addHL (p : Reg16) (s : State) : State :=
  ((s.advance 1).setFlags (s.flag .Z) false (addHLHalf s.hl (s.r16 p)) (addHLCarry s.hl (s.r16 p))).setR16 .HL
    (BitVec.ofNat 16 (s.hl.toNat + (s.r16 p).toNat))

/-- `INC rr` and `DEC rr` (R202, R203): no flag changes. -/
def addPair (p : Reg16) (delta : Word) (s : State) : State := (s.advance 1).setR16 p (s.r16 p + delta)

/-- `ADD SP,e` and `LD HL,SP+e` (R200, R204, R205): the sum into pair `p`, Z and N cleared, H and C from the low byte. -/
def spOffsetTo (p : Reg16) (e : Byte) (s : State) : State :=
  ((s.advance 2).setFlags false false (spOffsetHalf s.sp e) (spOffsetCarry s.sp e)).setR16 p (s.sp + sext16 e)

/-- `INC BC` (R202) -/
def execInc_BC (s : State) : Out := .next (addPair .BC 1 s)

/-- `ADD HL,BC` (R201) -/
def execAdd_HL_BC (s : State) : Out := .next (addHL .BC s)

/-- `DEC BC` (R203) -/
def execDec_BC (s : State) : Out := .next (addPair .BC (-1) s)

/-- `INC DE` (R202) -/
def execInc_DE (s : State) : Out := .next (addPair .DE 1 s)

/-- `ADD HL,DE` (R201) -/
def execAdd_HL_DE (s : State) : Out := .next (addHL .DE s)

/-- `DEC DE` (R203) -/
def execDec_DE (s : State) : Out := .next (addPair .DE (-1) s)

/-- `INC HL` (R202) -/
def execInc_HL (s : State) : Out := .next (addPair .HL 1 s)

/-- `ADD HL,HL` (R201) -/
def execAdd_HL_HL (s : State) : Out := .next (addHL .HL s)

/-- `DEC HL` (R203) -/
def execDec_HL (s : State) : Out := .next (addPair .HL (-1) s)

/-- `INC SP` (R202) -/
def execInc_SP (s : State) : Out := .next (addPair .SP 1 s)

/-- `ADD HL,SP` (R201) -/
def execAdd_HL_SP (s : State) : Out := .next (addHL .SP s)

/-- `DEC SP` (R203) -/
def execDec_SP (s : State) : Out := .next (addPair .SP (-1) s)

/-- `ADD SP,e` (R204) -/
def execAdd_SP_e (e : Byte) (s : State) : Out := .next (spOffsetTo .SP e s)

/-- `LD HL,SP+e` (R205) -/
def execLd_HL_SPe (e : Byte) (s : State) : Out := .next (spOffsetTo .HL e s)

end Sys2Proof.Machine
end

