-- ==== Sys2Proof/Machine/Alu8.lean ====
section
/-! DEFINITION. 8-bit arithmetic and logic (42_alu8.md R163 to R194). The operand is read before A or any flag is written. -/

namespace Sys2Proof.Machine

/-- An operation against A (R163 to R186): its result in A, but for CP, and all four flags. -/
def aluA (op : AluOp) (len : Nat) (o : Operand8) (s : State) : State :=
  (s.advance len).getThen o fun v =>
    let r := op.apply (s.r8 .A) v (s.flag .C)
    (if op.storesResult then (s.advance len).setR8 .A r.res else s.advance len).setFlags r.z r.n r.h r.c

/-- Reads an operand's byte, stores `f` of it and of the Carry flag back and writes the flags `f` gives (R187 to R190, R236 to R251). The
flags come from the value read, whether or not memory keeps the store (R188, R230). -/
def modify (len : Nat) (o : Operand8) (f : Byte → Bool → Flagged) (s : State) : State :=
  (s.advance len).getThen o fun v =>
    let r := f v (s.flag .C)
    ((s.advance len).setOperand o r.res).setFlags r.z r.n r.h r.c

/-- `DAA` (R191). -/
def decimalAdjust (s : State) : State :=
  let r := daa8 (s.r8 .A) (s.flag .N) (s.flag .H) (s.flag .C)
  ((s.advance 1).setR8 .A r.res).setFlags r.z r.n r.h r.c

/-- `CPL` (R192): Z and C stay. -/
def complementA (s : State) : State :=
  ((s.advance 1).setR8 .A (s.r8 .A ^^^ 0xFF)).setFlags (s.flag .Z) true true (s.flag .C)

/-- `SCF` (R193): Z stays. -/
def setCarry (s : State) : State := (s.advance 1).setFlags (s.flag .Z) false false true

/-- `CCF` (R194): Z stays. -/
def complementCarry (s : State) : State := (s.advance 1).setFlags (s.flag .Z) false false (!s.flag .C)

/-- `INC B` (R187) -/
def execInc_B (s : State) : Out := .next (modify 1 (.reg .B) inc8 s)

/-- `DEC B` (R189) -/
def execDec_B (s : State) : Out := .next (modify 1 (.reg .B) dec8 s)

/-- `INC C` (R187) -/
def execInc_C (s : State) : Out := .next (modify 1 (.reg .C) inc8 s)

/-- `DEC C` (R189) -/
def execDec_C (s : State) : Out := .next (modify 1 (.reg .C) dec8 s)

/-- `INC D` (R187) -/
def execInc_D (s : State) : Out := .next (modify 1 (.reg .D) inc8 s)

/-- `DEC D` (R189) -/
def execDec_D (s : State) : Out := .next (modify 1 (.reg .D) dec8 s)

/-- `INC E` (R187) -/
def execInc_E (s : State) : Out := .next (modify 1 (.reg .E) inc8 s)

/-- `DEC E` (R189) -/
def execDec_E (s : State) : Out := .next (modify 1 (.reg .E) dec8 s)

/-- `INC H` (R187) -/
def execInc_H (s : State) : Out := .next (modify 1 (.reg .H) inc8 s)

/-- `DEC H` (R189) -/
def execDec_H (s : State) : Out := .next (modify 1 (.reg .H) dec8 s)

/-- `DAA` (R191) -/
def execDaa (s : State) : Out := .next (decimalAdjust s)

/-- `INC L` (R187) -/
def execInc_L (s : State) : Out := .next (modify 1 (.reg .L) inc8 s)

/-- `DEC L` (R189) -/
def execDec_L (s : State) : Out := .next (modify 1 (.reg .L) dec8 s)

/-- `CPL` (R192) -/
def execCpl (s : State) : Out := .next (complementA s)

/-- `INC (HL)` (R188) -/
def execInc_atHL (s : State) : Out := .next (modify 1 (.mem s.hl) inc8 s)

/-- `DEC (HL)` (R190) -/
def execDec_atHL (s : State) : Out := .next (modify 1 (.mem s.hl) dec8 s)

/-- `SCF` (R193) -/
def execScf (s : State) : Out := .next (setCarry s)

/-- `INC A` (R187) -/
def execInc_A (s : State) : Out := .next (modify 1 (.reg .A) inc8 s)

/-- `DEC A` (R189) -/
def execDec_A (s : State) : Out := .next (modify 1 (.reg .A) dec8 s)

/-- `CCF` (R194) -/
def execCcf (s : State) : Out := .next (complementCarry s)

/-- `ADD A,B` (R163) -/
def execAdd_A_B (s : State) : Out := .next (aluA .add 1 (.reg .B) s)

/-- `ADD A,C` (R163) -/
def execAdd_A_C (s : State) : Out := .next (aluA .add 1 (.reg .C) s)

/-- `ADD A,D` (R163) -/
def execAdd_A_D (s : State) : Out := .next (aluA .add 1 (.reg .D) s)

/-- `ADD A,E` (R163) -/
def execAdd_A_E (s : State) : Out := .next (aluA .add 1 (.reg .E) s)

/-- `ADD A,H` (R163) -/
def execAdd_A_H (s : State) : Out := .next (aluA .add 1 (.reg .H) s)

/-- `ADD A,L` (R163) -/
def execAdd_A_L (s : State) : Out := .next (aluA .add 1 (.reg .L) s)

/-- `ADD A,(HL)` (R164) -/
def execAdd_A_atHL (s : State) : Out := .next (aluA .add 1 (.mem s.hl) s)

/-- `ADD A,A` (R163) -/
def execAdd_A_A (s : State) : Out := .next (aluA .add 1 (.reg .A) s)

/-- `ADC A,B` (R166) -/
def execAdc_A_B (s : State) : Out := .next (aluA .adc 1 (.reg .B) s)

/-- `ADC A,C` (R166) -/
def execAdc_A_C (s : State) : Out := .next (aluA .adc 1 (.reg .C) s)

/-- `ADC A,D` (R166) -/
def execAdc_A_D (s : State) : Out := .next (aluA .adc 1 (.reg .D) s)

/-- `ADC A,E` (R166) -/
def execAdc_A_E (s : State) : Out := .next (aluA .adc 1 (.reg .E) s)

/-- `ADC A,H` (R166) -/
def execAdc_A_H (s : State) : Out := .next (aluA .adc 1 (.reg .H) s)

/-- `ADC A,L` (R166) -/
def execAdc_A_L (s : State) : Out := .next (aluA .adc 1 (.reg .L) s)

/-- `ADC A,(HL)` (R167) -/
def execAdc_A_atHL (s : State) : Out := .next (aluA .adc 1 (.mem s.hl) s)

/-- `ADC A,A` (R166) -/
def execAdc_A_A (s : State) : Out := .next (aluA .adc 1 (.reg .A) s)

/-- `SUB B` (R169) -/
def execSub_B (s : State) : Out := .next (aluA .sub 1 (.reg .B) s)

/-- `SUB C` (R169) -/
def execSub_C (s : State) : Out := .next (aluA .sub 1 (.reg .C) s)

/-- `SUB D` (R169) -/
def execSub_D (s : State) : Out := .next (aluA .sub 1 (.reg .D) s)

/-- `SUB E` (R169) -/
def execSub_E (s : State) : Out := .next (aluA .sub 1 (.reg .E) s)

/-- `SUB H` (R169) -/
def execSub_H (s : State) : Out := .next (aluA .sub 1 (.reg .H) s)

/-- `SUB L` (R169) -/
def execSub_L (s : State) : Out := .next (aluA .sub 1 (.reg .L) s)

/-- `SUB (HL)` (R170) -/
def execSub_atHL (s : State) : Out := .next (aluA .sub 1 (.mem s.hl) s)

/-- `SUB A` (R169) -/
def execSub_A (s : State) : Out := .next (aluA .sub 1 (.reg .A) s)

/-- `SBC A,B` (R172) -/
def execSbc_A_B (s : State) : Out := .next (aluA .sbc 1 (.reg .B) s)

/-- `SBC A,C` (R172) -/
def execSbc_A_C (s : State) : Out := .next (aluA .sbc 1 (.reg .C) s)

/-- `SBC A,D` (R172) -/
def execSbc_A_D (s : State) : Out := .next (aluA .sbc 1 (.reg .D) s)

/-- `SBC A,E` (R172) -/
def execSbc_A_E (s : State) : Out := .next (aluA .sbc 1 (.reg .E) s)

/-- `SBC A,H` (R172) -/
def execSbc_A_H (s : State) : Out := .next (aluA .sbc 1 (.reg .H) s)

/-- `SBC A,L` (R172) -/
def execSbc_A_L (s : State) : Out := .next (aluA .sbc 1 (.reg .L) s)

/-- `SBC A,(HL)` (R173) -/
def execSbc_A_atHL (s : State) : Out := .next (aluA .sbc 1 (.mem s.hl) s)

/-- `SBC A,A` (R172) -/
def execSbc_A_A (s : State) : Out := .next (aluA .sbc 1 (.reg .A) s)

/-- `AND B` (R175) -/
def execAnd_B (s : State) : Out := .next (aluA .and 1 (.reg .B) s)

/-- `AND C` (R175) -/
def execAnd_C (s : State) : Out := .next (aluA .and 1 (.reg .C) s)

/-- `AND D` (R175) -/
def execAnd_D (s : State) : Out := .next (aluA .and 1 (.reg .D) s)

/-- `AND E` (R175) -/
def execAnd_E (s : State) : Out := .next (aluA .and 1 (.reg .E) s)

/-- `AND H` (R175) -/
def execAnd_H (s : State) : Out := .next (aluA .and 1 (.reg .H) s)

/-- `AND L` (R175) -/
def execAnd_L (s : State) : Out := .next (aluA .and 1 (.reg .L) s)

/-- `AND (HL)` (R176) -/
def execAnd_atHL (s : State) : Out := .next (aluA .and 1 (.mem s.hl) s)

/-- `AND A` (R175) -/
def execAnd_A (s : State) : Out := .next (aluA .and 1 (.reg .A) s)

/-- `XOR B` (R178) -/
def execXor_B (s : State) : Out := .next (aluA .xor 1 (.reg .B) s)

/-- `XOR C` (R178) -/
def execXor_C (s : State) : Out := .next (aluA .xor 1 (.reg .C) s)

/-- `XOR D` (R178) -/
def execXor_D (s : State) : Out := .next (aluA .xor 1 (.reg .D) s)

/-- `XOR E` (R178) -/
def execXor_E (s : State) : Out := .next (aluA .xor 1 (.reg .E) s)

/-- `XOR H` (R178) -/
def execXor_H (s : State) : Out := .next (aluA .xor 1 (.reg .H) s)

/-- `XOR L` (R178) -/
def execXor_L (s : State) : Out := .next (aluA .xor 1 (.reg .L) s)

/-- `XOR (HL)` (R179) -/
def execXor_atHL (s : State) : Out := .next (aluA .xor 1 (.mem s.hl) s)

/-- `XOR A` (R178) -/
def execXor_A (s : State) : Out := .next (aluA .xor 1 (.reg .A) s)

/-- `OR B` (R181) -/
def execOr_B (s : State) : Out := .next (aluA .or 1 (.reg .B) s)

/-- `OR C` (R181) -/
def execOr_C (s : State) : Out := .next (aluA .or 1 (.reg .C) s)

/-- `OR D` (R181) -/
def execOr_D (s : State) : Out := .next (aluA .or 1 (.reg .D) s)

/-- `OR E` (R181) -/
def execOr_E (s : State) : Out := .next (aluA .or 1 (.reg .E) s)

/-- `OR H` (R181) -/
def execOr_H (s : State) : Out := .next (aluA .or 1 (.reg .H) s)

/-- `OR L` (R181) -/
def execOr_L (s : State) : Out := .next (aluA .or 1 (.reg .L) s)

/-- `OR (HL)` (R182) -/
def execOr_atHL (s : State) : Out := .next (aluA .or 1 (.mem s.hl) s)

/-- `OR A` (R181) -/
def execOr_A (s : State) : Out := .next (aluA .or 1 (.reg .A) s)

/-- `CP B` (R184) -/
def execCp_B (s : State) : Out := .next (aluA .cp 1 (.reg .B) s)

/-- `CP C` (R184) -/
def execCp_C (s : State) : Out := .next (aluA .cp 1 (.reg .C) s)

/-- `CP D` (R184) -/
def execCp_D (s : State) : Out := .next (aluA .cp 1 (.reg .D) s)

/-- `CP E` (R184) -/
def execCp_E (s : State) : Out := .next (aluA .cp 1 (.reg .E) s)

/-- `CP H` (R184) -/
def execCp_H (s : State) : Out := .next (aluA .cp 1 (.reg .H) s)

/-- `CP L` (R184) -/
def execCp_L (s : State) : Out := .next (aluA .cp 1 (.reg .L) s)

/-- `CP (HL)` (R185) -/
def execCp_atHL (s : State) : Out := .next (aluA .cp 1 (.mem s.hl) s)

/-- `CP A` (R184) -/
def execCp_A (s : State) : Out := .next (aluA .cp 1 (.reg .A) s)

/-- `ADD A,n` (R165) -/
def execAdd_A_n (n : Byte) (s : State) : Out := .next (aluA .add 2 (.imm n) s)

/-- `ADC A,n` (R168) -/
def execAdc_A_n (n : Byte) (s : State) : Out := .next (aluA .adc 2 (.imm n) s)

/-- `SUB n` (R171) -/
def execSub_n (n : Byte) (s : State) : Out := .next (aluA .sub 2 (.imm n) s)

/-- `SBC A,n` (R174) -/
def execSbc_A_n (n : Byte) (s : State) : Out := .next (aluA .sbc 2 (.imm n) s)

/-- `AND n` (R177) -/
def execAnd_n (n : Byte) (s : State) : Out := .next (aluA .and 2 (.imm n) s)

/-- `XOR n` (R180) -/
def execXor_n (n : Byte) (s : State) : Out := .next (aluA .xor 2 (.imm n) s)

/-- `OR n` (R183) -/
def execOr_n (n : Byte) (s : State) : Out := .next (aluA .or 2 (.imm n) s)

/-- `CP n` (R186) -/
def execCp_n (n : Byte) (s : State) : Out := .next (aluA .cp 2 (.imm n) s)

end Sys2Proof.Machine
end

