-- ==== Sys2Proof/Machine/Control.lean ====
section
/-! DEFINITION. Control transfers (44_control.md R210 to R221). No flag is written. PC is past the whole instruction before the
action, so that is the return address a call pushes and the base of a relative jump (R25). -/

namespace Sys2Proof.Machine

/-- `JP nn` (R211). -/
def jump (nn : Word) (s : State) : State := { s.advance 3 with pc := nn }

/-- `JP cc,nn` (R212). -/
def jumpIf (cc : Cond) (nn : Word) (s : State) : State := if s.cond cc then jump nn s else s.advance 3

/-- `JP HL` (R213): no memory is read. -/
def jumpHL (s : State) : State := { s.advance 1 with pc := s.hl }

/-- `JR e` (R214). -/
def jumpRel (e : Byte) (s : State) : State := { s.advance 2 with pc := (s.advance 2).pc + sext16 e }

/-- `JR cc,e` (R215). -/
def jumpRelIf (cc : Cond) (e : Byte) (s : State) : State := if s.cond cc then jumpRel e s else s.advance 2

/-- `CALL nn` (R216), and `RST t` (R221) as a call of one byte: pushes the address after the instruction and goes to `target`. -/
def call (len : Nat) (target : Word) (s : State) : State :=
  { (s.advance len).push16 (s.advance len).pc with pc := target }

/-- `CALL cc,nn` (R217): not taken, nothing is pushed. -/
def callIf (cc : Cond) (nn : Word) (s : State) : State := if s.cond cc then call 3 nn s else s.advance 3

/-- `RET` (R218). -/
def ret (s : State) : State := (s.advance 1).popThen fun v t => { t with pc := v }

/-- `RET cc` (R219): not taken, nothing is popped. -/
def retIf (cc : Cond) (s : State) : State := if s.cond cc then ret s else s.advance 1

/-- `RETI` (R220): the return from an interrupt handler. -/
def reti (s : State) : State := (s.advance 1).returnFromInterrupt

/-- `JR e` (R214) -/
def execJr_e (e : Byte) (s : State) : Out := .next (jumpRel e s)

/-- `JR NZ,e` (R215) -/
def execJr_NZ_e (e : Byte) (s : State) : Out := .next (jumpRelIf .NZ e s)

/-- `JR Z,e` (R215) -/
def execJr_Z_e (e : Byte) (s : State) : Out := .next (jumpRelIf .Z e s)

/-- `JR NC,e` (R215) -/
def execJr_NC_e (e : Byte) (s : State) : Out := .next (jumpRelIf .NC e s)

/-- `JR C,e` (R215) -/
def execJr_C_e (e : Byte) (s : State) : Out := .next (jumpRelIf .C e s)

/-- `RET NZ` (R219) -/
def execRet_NZ (s : State) : Out := .next (retIf .NZ s)

/-- `JP NZ,nn` (R212) -/
def execJp_NZ_nn (nn : Word) (s : State) : Out := .next (jumpIf .NZ nn s)

/-- `JP nn` (R211) -/
def execJp_nn (nn : Word) (s : State) : Out := .next (jump nn s)

/-- `CALL NZ,nn` (R217) -/
def execCall_NZ_nn (nn : Word) (s : State) : Out := .next (callIf .NZ nn s)

/-- `RST 00H` (R221) -/
def execRst_00H (s : State) : Out := .next (call 1 0x0000 s)

/-- `RET Z` (R219) -/
def execRet_Z (s : State) : Out := .next (retIf .Z s)

/-- `RET` (R218) -/
def execRet (s : State) : Out := .next (ret s)

/-- `JP Z,nn` (R212) -/
def execJp_Z_nn (nn : Word) (s : State) : Out := .next (jumpIf .Z nn s)

/-- `CALL Z,nn` (R217) -/
def execCall_Z_nn (nn : Word) (s : State) : Out := .next (callIf .Z nn s)

/-- `CALL nn` (R216) -/
def execCall_nn (nn : Word) (s : State) : Out := .next (call 3 nn s)

/-- `RST 08H` (R221) -/
def execRst_08H (s : State) : Out := .next (call 1 0x0008 s)

/-- `RET NC` (R219) -/
def execRet_NC (s : State) : Out := .next (retIf .NC s)

/-- `JP NC,nn` (R212) -/
def execJp_NC_nn (nn : Word) (s : State) : Out := .next (jumpIf .NC nn s)

/-- `CALL NC,nn` (R217) -/
def execCall_NC_nn (nn : Word) (s : State) : Out := .next (callIf .NC nn s)

/-- `RST 10H` (R221) -/
def execRst_10H (s : State) : Out := .next (call 1 0x0010 s)

/-- `RET C` (R219) -/
def execRet_C (s : State) : Out := .next (retIf .C s)

/-- `RETI` (R220) -/
def execReti (s : State) : Out := .next (reti s)

/-- `JP C,nn` (R212) -/
def execJp_C_nn (nn : Word) (s : State) : Out := .next (jumpIf .C nn s)

/-- `CALL C,nn` (R217) -/
def execCall_C_nn (nn : Word) (s : State) : Out := .next (callIf .C nn s)

/-- `RST 18H` (R221) -/
def execRst_18H (s : State) : Out := .next (call 1 0x0018 s)

/-- `RST 20H` (R221) -/
def execRst_20H (s : State) : Out := .next (call 1 0x0020 s)

/-- `JP HL` (R213) -/
def execJp_HL (s : State) : Out := .next (jumpHL s)

/-- `RST 28H` (R221) -/
def execRst_28H (s : State) : Out := .next (call 1 0x0028 s)

/-- `RST 30H` (R221) -/
def execRst_30H (s : State) : Out := .next (call 1 0x0030 s)

/-- `RST 38H` (R221) -/
def execRst_38H (s : State) : Out := .next (call 1 0x0038 s)

end Sys2Proof.Machine
end

