-- ==== Sys2Proof/Machine/Load16.lean ====
section
/-! DEFINITION. 16-bit loads and the stack instructions (41_load16_stack.md R150 to R155). -/

namespace Sys2Proof.Machine

/-- `LD rr,nn` (R150). -/
def loadPair (p : Reg16) (nn : Word) (s : State) : State := (s.advance 3).setR16 p nn

/-- `LD (nn),SP` (R151): the low byte at `nn`, the high byte above it. -/
def storeSP (nn : Word) (s : State) : State := (s.advance 3).writeWord nn s.sp

/-- `LD SP,HL` (R152). -/
def copyHLtoSP (s : State) : State := (s.advance 1).setR16 .SP s.hl

/-- `PUSH rr` (R153). -/
def pushPair (p : Reg16) (s : State) : State := (s.advance 1).push16 (s.r16 p)

/-- `POP rr` (R154, R155): the register write masks the low bits of F when the pair is AF (R23). -/
def popPair (p : Reg16) (s : State) : State := (s.advance 1).popThen fun v t => t.setR16 p v

/-- `LD BC,nn` (R150) -/
def execLd_BC_nn (nn : Word) (s : State) : Out := .next (loadPair .BC nn s)

/-- `LD (nn),SP` (R151) -/
def execLd_atnn_SP (nn : Word) (s : State) : Out := .next (storeSP nn s)

/-- `LD DE,nn` (R150) -/
def execLd_DE_nn (nn : Word) (s : State) : Out := .next (loadPair .DE nn s)

/-- `LD HL,nn` (R150) -/
def execLd_HL_nn (nn : Word) (s : State) : Out := .next (loadPair .HL nn s)

/-- `LD SP,nn` (R150) -/
def execLd_SP_nn (nn : Word) (s : State) : Out := .next (loadPair .SP nn s)

/-- `POP BC` (R154) -/
def execPop_BC (s : State) : Out := .next (popPair .BC s)

/-- `PUSH BC` (R153) -/
def execPush_BC (s : State) : Out := .next (pushPair .BC s)

/-- `POP DE` (R154) -/
def execPop_DE (s : State) : Out := .next (popPair .DE s)

/-- `PUSH DE` (R153) -/
def execPush_DE (s : State) : Out := .next (pushPair .DE s)

/-- `POP HL` (R154) -/
def execPop_HL (s : State) : Out := .next (popPair .HL s)

/-- `PUSH HL` (R153) -/
def execPush_HL (s : State) : Out := .next (pushPair .HL s)

/-- `POP AF` (R155) -/
def execPop_AF (s : State) : Out := .next (popPair .AF s)

/-- `PUSH AF` (R153) -/
def execPush_AF (s : State) : Out := .next (pushPair .AF s)

/-- `LD SP,HL` (R152) -/
def execLd_SP_HL (s : State) : Out := .next (copyHLtoSP s)

end Sys2Proof.Machine
end

