-- ==== Sys2Proof/Machine/Load8.lean ====
section
/-! DEFINITION. 8-bit loads (40_load8.md R130 to R148). No flag is read or written. Every meaning begins with PC past the whole
instruction. -/

namespace Sys2Proof.Machine

/-- Loads register `d` from an operand (R130 to R132, R135, R136, R139, R141, R143). -/
def loadReg (d : Reg8) (len : Nat) (o : Operand8) (s : State) : State :=
  (s.advance len).getThen o fun v => (s.advance len).setR8 d v

/-- Stores byte `v` at address `a` (R133, R134, R137, R138, R140, R142, R144). -/
def storeByte (len : Nat) (a : Word) (v : Byte) (s : State) : State :=
  (s.advance len).write a v

/-- Adds `delta` to HL, after the access of LDI or LDD; no flag changes (R145 to R148). -/
def stepHL (delta : Word) (t : State) : State := { t with hl := t.hl + delta }

/-- `LD (BC),A` (R137) -/
def execLd_atBC_A (s : State) : Out := .next (storeByte 1 s.bc (s.r8 .A) s)

/-- `LD B,n` (R131) -/
def execLd_B_n (n : Byte) (s : State) : Out := .next (loadReg .B 2 (.imm n) s)

/-- `LD A,(BC)` (R135) -/
def execLd_A_atBC (s : State) : Out := .next (loadReg .A 1 (.mem s.bc) s)

/-- `LD C,n` (R131) -/
def execLd_C_n (n : Byte) (s : State) : Out := .next (loadReg .C 2 (.imm n) s)

/-- `LD (DE),A` (R138) -/
def execLd_atDE_A (s : State) : Out := .next (storeByte 1 s.de (s.r8 .A) s)

/-- `LD D,n` (R131) -/
def execLd_D_n (n : Byte) (s : State) : Out := .next (loadReg .D 2 (.imm n) s)

/-- `LD A,(DE)` (R136) -/
def execLd_A_atDE (s : State) : Out := .next (loadReg .A 1 (.mem s.de) s)

/-- `LD E,n` (R131) -/
def execLd_E_n (n : Byte) (s : State) : Out := .next (loadReg .E 2 (.imm n) s)

/-- `LDI (HL),A` (R145) -/
def execLdi_atHL_A (s : State) : Out := .next (stepHL (1) (storeByte 1 s.hl (s.r8 .A) s))

/-- `LD H,n` (R131) -/
def execLd_H_n (n : Byte) (s : State) : Out := .next (loadReg .H 2 (.imm n) s)

/-- `LDI A,(HL)` (R146) -/
def execLdi_A_atHL (s : State) : Out := .next (stepHL (1) (loadReg .A 1 (.mem s.hl) s))

/-- `LD L,n` (R131) -/
def execLd_L_n (n : Byte) (s : State) : Out := .next (loadReg .L 2 (.imm n) s)

/-- `LDD (HL),A` (R147) -/
def execLdd_atHL_A (s : State) : Out := .next (stepHL (-1) (storeByte 1 s.hl (s.r8 .A) s))

/-- `LD (HL),n` (R134) -/
def execLd_atHL_n (n : Byte) (s : State) : Out := .next (storeByte 2 s.hl n s)

/-- `LDD A,(HL)` (R148) -/
def execLdd_A_atHL (s : State) : Out := .next (stepHL (-1) (loadReg .A 1 (.mem s.hl) s))

/-- `LD A,n` (R131) -/
def execLd_A_n (n : Byte) (s : State) : Out := .next (loadReg .A 2 (.imm n) s)

/-- `LD B,B` (R130) -/
def execLd_B_B (s : State) : Out := .next (loadReg .B 1 (.reg .B) s)

/-- `LD B,C` (R130) -/
def execLd_B_C (s : State) : Out := .next (loadReg .B 1 (.reg .C) s)

/-- `LD B,D` (R130) -/
def execLd_B_D (s : State) : Out := .next (loadReg .B 1 (.reg .D) s)

/-- `LD B,E` (R130) -/
def execLd_B_E (s : State) : Out := .next (loadReg .B 1 (.reg .E) s)

/-- `LD B,H` (R130) -/
def execLd_B_H (s : State) : Out := .next (loadReg .B 1 (.reg .H) s)

/-- `LD B,L` (R130) -/
def execLd_B_L (s : State) : Out := .next (loadReg .B 1 (.reg .L) s)

/-- `LD B,(HL)` (R132) -/
def execLd_B_atHL (s : State) : Out := .next (loadReg .B 1 (.mem s.hl) s)

/-- `LD B,A` (R130) -/
def execLd_B_A (s : State) : Out := .next (loadReg .B 1 (.reg .A) s)

/-- `LD C,B` (R130) -/
def execLd_C_B (s : State) : Out := .next (loadReg .C 1 (.reg .B) s)

/-- `LD C,C` (R130) -/
def execLd_C_C (s : State) : Out := .next (loadReg .C 1 (.reg .C) s)

/-- `LD C,D` (R130) -/
def execLd_C_D (s : State) : Out := .next (loadReg .C 1 (.reg .D) s)

/-- `LD C,E` (R130) -/
def execLd_C_E (s : State) : Out := .next (loadReg .C 1 (.reg .E) s)

/-- `LD C,H` (R130) -/
def execLd_C_H (s : State) : Out := .next (loadReg .C 1 (.reg .H) s)

/-- `LD C,L` (R130) -/
def execLd_C_L (s : State) : Out := .next (loadReg .C 1 (.reg .L) s)

/-- `LD C,(HL)` (R132) -/
def execLd_C_atHL (s : State) : Out := .next (loadReg .C 1 (.mem s.hl) s)

/-- `LD C,A` (R130) -/
def execLd_C_A (s : State) : Out := .next (loadReg .C 1 (.reg .A) s)

/-- `LD D,B` (R130) -/
def execLd_D_B (s : State) : Out := .next (loadReg .D 1 (.reg .B) s)

/-- `LD D,C` (R130) -/
def execLd_D_C (s : State) : Out := .next (loadReg .D 1 (.reg .C) s)

/-- `LD D,D` (R130) -/
def execLd_D_D (s : State) : Out := .next (loadReg .D 1 (.reg .D) s)

/-- `LD D,E` (R130) -/
def execLd_D_E (s : State) : Out := .next (loadReg .D 1 (.reg .E) s)

/-- `LD D,H` (R130) -/
def execLd_D_H (s : State) : Out := .next (loadReg .D 1 (.reg .H) s)

/-- `LD D,L` (R130) -/
def execLd_D_L (s : State) : Out := .next (loadReg .D 1 (.reg .L) s)

/-- `LD D,(HL)` (R132) -/
def execLd_D_atHL (s : State) : Out := .next (loadReg .D 1 (.mem s.hl) s)

/-- `LD D,A` (R130) -/
def execLd_D_A (s : State) : Out := .next (loadReg .D 1 (.reg .A) s)

/-- `LD E,B` (R130) -/
def execLd_E_B (s : State) : Out := .next (loadReg .E 1 (.reg .B) s)

/-- `LD E,C` (R130) -/
def execLd_E_C (s : State) : Out := .next (loadReg .E 1 (.reg .C) s)

/-- `LD E,D` (R130) -/
def execLd_E_D (s : State) : Out := .next (loadReg .E 1 (.reg .D) s)

/-- `LD E,E` (R130) -/
def execLd_E_E (s : State) : Out := .next (loadReg .E 1 (.reg .E) s)

/-- `LD E,H` (R130) -/
def execLd_E_H (s : State) : Out := .next (loadReg .E 1 (.reg .H) s)

/-- `LD E,L` (R130) -/
def execLd_E_L (s : State) : Out := .next (loadReg .E 1 (.reg .L) s)

/-- `LD E,(HL)` (R132) -/
def execLd_E_atHL (s : State) : Out := .next (loadReg .E 1 (.mem s.hl) s)

/-- `LD E,A` (R130) -/
def execLd_E_A (s : State) : Out := .next (loadReg .E 1 (.reg .A) s)

/-- `LD H,B` (R130) -/
def execLd_H_B (s : State) : Out := .next (loadReg .H 1 (.reg .B) s)

/-- `LD H,C` (R130) -/
def execLd_H_C (s : State) : Out := .next (loadReg .H 1 (.reg .C) s)

/-- `LD H,D` (R130) -/
def execLd_H_D (s : State) : Out := .next (loadReg .H 1 (.reg .D) s)

/-- `LD H,E` (R130) -/
def execLd_H_E (s : State) : Out := .next (loadReg .H 1 (.reg .E) s)

/-- `LD H,H` (R130) -/
def execLd_H_H (s : State) : Out := .next (loadReg .H 1 (.reg .H) s)

/-- `LD H,L` (R130) -/
def execLd_H_L (s : State) : Out := .next (loadReg .H 1 (.reg .L) s)

/-- `LD H,(HL)` (R132) -/
def execLd_H_atHL (s : State) : Out := .next (loadReg .H 1 (.mem s.hl) s)

/-- `LD H,A` (R130) -/
def execLd_H_A (s : State) : Out := .next (loadReg .H 1 (.reg .A) s)

/-- `LD L,B` (R130) -/
def execLd_L_B (s : State) : Out := .next (loadReg .L 1 (.reg .B) s)

/-- `LD L,C` (R130) -/
def execLd_L_C (s : State) : Out := .next (loadReg .L 1 (.reg .C) s)

/-- `LD L,D` (R130) -/
def execLd_L_D (s : State) : Out := .next (loadReg .L 1 (.reg .D) s)

/-- `LD L,E` (R130) -/
def execLd_L_E (s : State) : Out := .next (loadReg .L 1 (.reg .E) s)

/-- `LD L,H` (R130) -/
def execLd_L_H (s : State) : Out := .next (loadReg .L 1 (.reg .H) s)

/-- `LD L,L` (R130) -/
def execLd_L_L (s : State) : Out := .next (loadReg .L 1 (.reg .L) s)

/-- `LD L,(HL)` (R132) -/
def execLd_L_atHL (s : State) : Out := .next (loadReg .L 1 (.mem s.hl) s)

/-- `LD L,A` (R130) -/
def execLd_L_A (s : State) : Out := .next (loadReg .L 1 (.reg .A) s)

/-- `LD (HL),B` (R133) -/
def execLd_atHL_B (s : State) : Out := .next (storeByte 1 s.hl (s.r8 .B) s)

/-- `LD (HL),C` (R133) -/
def execLd_atHL_C (s : State) : Out := .next (storeByte 1 s.hl (s.r8 .C) s)

/-- `LD (HL),D` (R133) -/
def execLd_atHL_D (s : State) : Out := .next (storeByte 1 s.hl (s.r8 .D) s)

/-- `LD (HL),E` (R133) -/
def execLd_atHL_E (s : State) : Out := .next (storeByte 1 s.hl (s.r8 .E) s)

/-- `LD (HL),H` (R133) -/
def execLd_atHL_H (s : State) : Out := .next (storeByte 1 s.hl (s.r8 .H) s)

/-- `LD (HL),L` (R133) -/
def execLd_atHL_L (s : State) : Out := .next (storeByte 1 s.hl (s.r8 .L) s)

/-- `LD (HL),A` (R133) -/
def execLd_atHL_A (s : State) : Out := .next (storeByte 1 s.hl (s.r8 .A) s)

/-- `LD A,B` (R130) -/
def execLd_A_B (s : State) : Out := .next (loadReg .A 1 (.reg .B) s)

/-- `LD A,C` (R130) -/
def execLd_A_C (s : State) : Out := .next (loadReg .A 1 (.reg .C) s)

/-- `LD A,D` (R130) -/
def execLd_A_D (s : State) : Out := .next (loadReg .A 1 (.reg .D) s)

/-- `LD A,E` (R130) -/
def execLd_A_E (s : State) : Out := .next (loadReg .A 1 (.reg .E) s)

/-- `LD A,H` (R130) -/
def execLd_A_H (s : State) : Out := .next (loadReg .A 1 (.reg .H) s)

/-- `LD A,L` (R130) -/
def execLd_A_L (s : State) : Out := .next (loadReg .A 1 (.reg .L) s)

/-- `LD A,(HL)` (R132) -/
def execLd_A_atHL (s : State) : Out := .next (loadReg .A 1 (.mem s.hl) s)

/-- `LD A,A` (R130) -/
def execLd_A_A (s : State) : Out := .next (loadReg .A 1 (.reg .A) s)

/-- `LDH (n),A` (R142) -/
def execLdh_atn_A (n : Byte) (s : State) : Out := .next (storeByte 2 (highPage n) (s.r8 .A) s)

/-- `LD (C),A` (R144) -/
def execLd_atC_A (s : State) : Out := .next (storeByte 1 (highPage (s.r8 .C)) (s.r8 .A) s)

/-- `LD (nn),A` (R140) -/
def execLd_atnn_A (nn : Word) (s : State) : Out := .next (storeByte 3 nn (s.r8 .A) s)

/-- `LDH A,(n)` (R141) -/
def execLdh_A_atn (n : Byte) (s : State) : Out := .next (loadReg .A 2 (.mem (highPage n)) s)

/-- `LD A,(C)` (R143) -/
def execLd_A_atC (s : State) : Out := .next (loadReg .A 1 (.mem (highPage (s.r8 .C))) s)

/-- `LD A,(nn)` (R139) -/
def execLd_A_atnn (nn : Word) (s : State) : Out := .next (loadReg .A 3 (.mem nn) s)

end Sys2Proof.Machine
end

