-- ==== Sys2Proof/Machine/RotateShiftBit.lean ====
section
/-! DEFINITION. Rotates, shifts, swap and bit instructions (45_rotate_shift_bit.md R230 to R257). -/

namespace Sys2Proof.Machine

/-- The result and flags of a shift function in the extended set: `* 0 0 *` (R236 to R251). -/
def shift8 (f : Shift) (v : Byte) (cin : Bool) : Flagged :=
  { res := f.res v cin, z := f.res v cin = 0, n := false, h := false, c := f.cout v }

/-- RLCA, RLA, RRCA, RRA (R232 to R235): Z is always cleared. -/
def rotateA (f : Shift) (s : State) : State :=
  ((s.advance 1).setR8 .A (f.res (s.r8 .A) (s.flag .C))).setFlags false false false (f.cout (s.r8 .A))

/-- A rotate, shift or swap of the extended set on an operand (R236 to R251). -/
def shiftOperand (f : Shift) (o : Operand8) (s : State) : State := modify 2 o (shift8 f) s

/-- `BIT b` (R252, R253): Z is the complement of the bit, N cleared, H set, C kept; the operand is not written. -/
def testBit (b : BitVec 3) (o : Operand8) (s : State) : State :=
  (s.advance 2).getThen o fun v => (s.advance 2).setFlags (!v.getLsbD b.toNat) false true (s.flag .C)

/-- `RES b` (R254, R255): no flag changes. -/
def resetBit (b : BitVec 3) (o : Operand8) (s : State) : State :=
  (s.advance 2).getThen o fun v => (s.advance 2).setOperand o (v &&& ~~~(BitVec.ofNat 8 (2 ^ b.toNat)))

/-- `SET b` (R256, R257): no flag changes. -/
def setBit (b : BitVec 3) (o : Operand8) (s : State) : State :=
  (s.advance 2).getThen o fun v => (s.advance 2).setOperand o (v ||| BitVec.ofNat 8 (2 ^ b.toNat))

/-- The extended instruction of second byte `op2`, by its fields x, y, z (30_encoding.md R101, R106). -/
def extendedOp (op2 : Byte) (s : State) : State :=
  let y : BitVec 3 := op2.extractLsb' 3 3
  let o := operandOf s (op2.extractLsb' 0 3)
  match (op2.extractLsb' 6 2).toNat with
  | 0 => shiftOperand (shiftOf y) o s
  | 1 => testBit y o s
  | 2 => resetBit y o s
  | _ => setBit y o s

/-- `RLCA` (R232) -/
def execRlca (s : State) : Out := .next (rotateA .rlc s)

/-- `RRCA` (R234) -/
def execRrca (s : State) : Out := .next (rotateA .rrc s)

/-- `RLA` (R233) -/
def execRla (s : State) : Out := .next (rotateA .rl s)

/-- `RRA` (R235) -/
def execRra (s : State) : Out := .next (rotateA .rr s)

/-- `RLC B` (R236) -/
def execRlc_B (s : State) : Out := .next (shiftOperand .rlc (.reg .B) s)

/-- `RLC C` (R236) -/
def execRlc_C (s : State) : Out := .next (shiftOperand .rlc (.reg .C) s)

/-- `RLC D` (R236) -/
def execRlc_D (s : State) : Out := .next (shiftOperand .rlc (.reg .D) s)

/-- `RLC E` (R236) -/
def execRlc_E (s : State) : Out := .next (shiftOperand .rlc (.reg .E) s)

/-- `RLC H` (R236) -/
def execRlc_H (s : State) : Out := .next (shiftOperand .rlc (.reg .H) s)

/-- `RLC L` (R236) -/
def execRlc_L (s : State) : Out := .next (shiftOperand .rlc (.reg .L) s)

/-- `RLC (HL)` (R237) -/
def execRlc_atHL (s : State) : Out := .next (shiftOperand .rlc (.mem s.hl) s)

/-- `RLC A` (R236) -/
def execRlc_A (s : State) : Out := .next (shiftOperand .rlc (.reg .A) s)

/-- `RRC B` (R238) -/
def execRrc_B (s : State) : Out := .next (shiftOperand .rrc (.reg .B) s)

/-- `RRC C` (R238) -/
def execRrc_C (s : State) : Out := .next (shiftOperand .rrc (.reg .C) s)

/-- `RRC D` (R238) -/
def execRrc_D (s : State) : Out := .next (shiftOperand .rrc (.reg .D) s)

/-- `RRC E` (R238) -/
def execRrc_E (s : State) : Out := .next (shiftOperand .rrc (.reg .E) s)

/-- `RRC H` (R238) -/
def execRrc_H (s : State) : Out := .next (shiftOperand .rrc (.reg .H) s)

/-- `RRC L` (R238) -/
def execRrc_L (s : State) : Out := .next (shiftOperand .rrc (.reg .L) s)

/-- `RRC (HL)` (R239) -/
def execRrc_atHL (s : State) : Out := .next (shiftOperand .rrc (.mem s.hl) s)

/-- `RRC A` (R238) -/
def execRrc_A (s : State) : Out := .next (shiftOperand .rrc (.reg .A) s)

/-- `RL B` (R240) -/
def execRl_B (s : State) : Out := .next (shiftOperand .rl (.reg .B) s)

/-- `RL C` (R240) -/
def execRl_C (s : State) : Out := .next (shiftOperand .rl (.reg .C) s)

/-- `RL D` (R240) -/
def execRl_D (s : State) : Out := .next (shiftOperand .rl (.reg .D) s)

/-- `RL E` (R240) -/
def execRl_E (s : State) : Out := .next (shiftOperand .rl (.reg .E) s)

/-- `RL H` (R240) -/
def execRl_H (s : State) : Out := .next (shiftOperand .rl (.reg .H) s)

/-- `RL L` (R240) -/
def execRl_L (s : State) : Out := .next (shiftOperand .rl (.reg .L) s)

/-- `RL (HL)` (R241) -/
def execRl_atHL (s : State) : Out := .next (shiftOperand .rl (.mem s.hl) s)

/-- `RL A` (R240) -/
def execRl_A (s : State) : Out := .next (shiftOperand .rl (.reg .A) s)

/-- `RR B` (R242) -/
def execRr_B (s : State) : Out := .next (shiftOperand .rr (.reg .B) s)

/-- `RR C` (R242) -/
def execRr_C (s : State) : Out := .next (shiftOperand .rr (.reg .C) s)

/-- `RR D` (R242) -/
def execRr_D (s : State) : Out := .next (shiftOperand .rr (.reg .D) s)

/-- `RR E` (R242) -/
def execRr_E (s : State) : Out := .next (shiftOperand .rr (.reg .E) s)

/-- `RR H` (R242) -/
def execRr_H (s : State) : Out := .next (shiftOperand .rr (.reg .H) s)

/-- `RR L` (R242) -/
def execRr_L (s : State) : Out := .next (shiftOperand .rr (.reg .L) s)

/-- `RR (HL)` (R243) -/
def execRr_atHL (s : State) : Out := .next (shiftOperand .rr (.mem s.hl) s)

/-- `RR A` (R242) -/
def execRr_A (s : State) : Out := .next (shiftOperand .rr (.reg .A) s)

/-- `SLA B` (R244) -/
def execSla_B (s : State) : Out := .next (shiftOperand .sla (.reg .B) s)

/-- `SLA C` (R244) -/
def execSla_C (s : State) : Out := .next (shiftOperand .sla (.reg .C) s)

/-- `SLA D` (R244) -/
def execSla_D (s : State) : Out := .next (shiftOperand .sla (.reg .D) s)

/-- `SLA E` (R244) -/
def execSla_E (s : State) : Out := .next (shiftOperand .sla (.reg .E) s)

/-- `SLA H` (R244) -/
def execSla_H (s : State) : Out := .next (shiftOperand .sla (.reg .H) s)

/-- `SLA L` (R244) -/
def execSla_L (s : State) : Out := .next (shiftOperand .sla (.reg .L) s)

/-- `SLA (HL)` (R245) -/
def execSla_atHL (s : State) : Out := .next (shiftOperand .sla (.mem s.hl) s)

/-- `SLA A` (R244) -/
def execSla_A (s : State) : Out := .next (shiftOperand .sla (.reg .A) s)

/-- `SRA B` (R246) -/
def execSra_B (s : State) : Out := .next (shiftOperand .sra (.reg .B) s)

/-- `SRA C` (R246) -/
def execSra_C (s : State) : Out := .next (shiftOperand .sra (.reg .C) s)

/-- `SRA D` (R246) -/
def execSra_D (s : State) : Out := .next (shiftOperand .sra (.reg .D) s)

/-- `SRA E` (R246) -/
def execSra_E (s : State) : Out := .next (shiftOperand .sra (.reg .E) s)

/-- `SRA H` (R246) -/
def execSra_H (s : State) : Out := .next (shiftOperand .sra (.reg .H) s)

/-- `SRA L` (R246) -/
def execSra_L (s : State) : Out := .next (shiftOperand .sra (.reg .L) s)

/-- `SRA (HL)` (R247) -/
def execSra_atHL (s : State) : Out := .next (shiftOperand .sra (.mem s.hl) s)

/-- `SRA A` (R246) -/
def execSra_A (s : State) : Out := .next (shiftOperand .sra (.reg .A) s)

/-- `SWAP B` (R248) -/
def execSwap_B (s : State) : Out := .next (shiftOperand .swap (.reg .B) s)

/-- `SWAP C` (R248) -/
def execSwap_C (s : State) : Out := .next (shiftOperand .swap (.reg .C) s)

/-- `SWAP D` (R248) -/
def execSwap_D (s : State) : Out := .next (shiftOperand .swap (.reg .D) s)

/-- `SWAP E` (R248) -/
def execSwap_E (s : State) : Out := .next (shiftOperand .swap (.reg .E) s)

/-- `SWAP H` (R248) -/
def execSwap_H (s : State) : Out := .next (shiftOperand .swap (.reg .H) s)

/-- `SWAP L` (R248) -/
def execSwap_L (s : State) : Out := .next (shiftOperand .swap (.reg .L) s)

/-- `SWAP (HL)` (R249) -/
def execSwap_atHL (s : State) : Out := .next (shiftOperand .swap (.mem s.hl) s)

/-- `SWAP A` (R248) -/
def execSwap_A (s : State) : Out := .next (shiftOperand .swap (.reg .A) s)

/-- `SRL B` (R250) -/
def execSrl_B (s : State) : Out := .next (shiftOperand .srl (.reg .B) s)

/-- `SRL C` (R250) -/
def execSrl_C (s : State) : Out := .next (shiftOperand .srl (.reg .C) s)

/-- `SRL D` (R250) -/
def execSrl_D (s : State) : Out := .next (shiftOperand .srl (.reg .D) s)

/-- `SRL E` (R250) -/
def execSrl_E (s : State) : Out := .next (shiftOperand .srl (.reg .E) s)

/-- `SRL H` (R250) -/
def execSrl_H (s : State) : Out := .next (shiftOperand .srl (.reg .H) s)

/-- `SRL L` (R250) -/
def execSrl_L (s : State) : Out := .next (shiftOperand .srl (.reg .L) s)

/-- `SRL (HL)` (R251) -/
def execSrl_atHL (s : State) : Out := .next (shiftOperand .srl (.mem s.hl) s)

/-- `SRL A` (R250) -/
def execSrl_A (s : State) : Out := .next (shiftOperand .srl (.reg .A) s)

/-- `BIT b,B` (R252) -/
def execBit_b_B (b : BitVec 3) (s : State) : Out := .next (testBit b (.reg .B) s)

/-- `BIT b,C` (R252) -/
def execBit_b_C (b : BitVec 3) (s : State) : Out := .next (testBit b (.reg .C) s)

/-- `BIT b,D` (R252) -/
def execBit_b_D (b : BitVec 3) (s : State) : Out := .next (testBit b (.reg .D) s)

/-- `BIT b,E` (R252) -/
def execBit_b_E (b : BitVec 3) (s : State) : Out := .next (testBit b (.reg .E) s)

/-- `BIT b,H` (R252) -/
def execBit_b_H (b : BitVec 3) (s : State) : Out := .next (testBit b (.reg .H) s)

/-- `BIT b,L` (R252) -/
def execBit_b_L (b : BitVec 3) (s : State) : Out := .next (testBit b (.reg .L) s)

/-- `BIT b,(HL)` (R253) -/
def execBit_b_atHL (b : BitVec 3) (s : State) : Out := .next (testBit b (.mem s.hl) s)

/-- `BIT b,A` (R252) -/
def execBit_b_A (b : BitVec 3) (s : State) : Out := .next (testBit b (.reg .A) s)

/-- `RES b,B` (R254) -/
def execRes_b_B (b : BitVec 3) (s : State) : Out := .next (resetBit b (.reg .B) s)

/-- `RES b,C` (R254) -/
def execRes_b_C (b : BitVec 3) (s : State) : Out := .next (resetBit b (.reg .C) s)

/-- `RES b,D` (R254) -/
def execRes_b_D (b : BitVec 3) (s : State) : Out := .next (resetBit b (.reg .D) s)

/-- `RES b,E` (R254) -/
def execRes_b_E (b : BitVec 3) (s : State) : Out := .next (resetBit b (.reg .E) s)

/-- `RES b,H` (R254) -/
def execRes_b_H (b : BitVec 3) (s : State) : Out := .next (resetBit b (.reg .H) s)

/-- `RES b,L` (R254) -/
def execRes_b_L (b : BitVec 3) (s : State) : Out := .next (resetBit b (.reg .L) s)

/-- `RES b,(HL)` (R255) -/
def execRes_b_atHL (b : BitVec 3) (s : State) : Out := .next (resetBit b (.mem s.hl) s)

/-- `RES b,A` (R254) -/
def execRes_b_A (b : BitVec 3) (s : State) : Out := .next (resetBit b (.reg .A) s)

/-- `SET b,B` (R256) -/
def execSet_b_B (b : BitVec 3) (s : State) : Out := .next (setBit b (.reg .B) s)

/-- `SET b,C` (R256) -/
def execSet_b_C (b : BitVec 3) (s : State) : Out := .next (setBit b (.reg .C) s)

/-- `SET b,D` (R256) -/
def execSet_b_D (b : BitVec 3) (s : State) : Out := .next (setBit b (.reg .D) s)

/-- `SET b,E` (R256) -/
def execSet_b_E (b : BitVec 3) (s : State) : Out := .next (setBit b (.reg .E) s)

/-- `SET b,H` (R256) -/
def execSet_b_H (b : BitVec 3) (s : State) : Out := .next (setBit b (.reg .H) s)

/-- `SET b,L` (R256) -/
def execSet_b_L (b : BitVec 3) (s : State) : Out := .next (setBit b (.reg .L) s)

/-- `SET b,(HL)` (R257) -/
def execSet_b_atHL (b : BitVec 3) (s : State) : Out := .next (setBit b (.mem s.hl) s)

/-- `SET b,A` (R256) -/
def execSet_b_A (b : BitVec 3) (s : State) : Out := .next (setBit b (.reg .A) s)

end Sys2Proof.Machine
end

