-- ==== Sys2Proof/Machine/System.lean ====
section
/-! DEFINITION. System instructions, the prefix and the faulting opcodes (46_system.md R260 to R267). -/

namespace Sys2Proof.Machine

/-- `HALT` (R261). -/
def halt (s : State) : State := { s.advance 1 with halted := true }

/-- `DI` (R263) and `EI` (R264): IME at once (D6). -/
def setIME (b : Bool) (s : State) : State := { s.advance 1 with ime := b }

/-- `PREFIX CB` (R265): runs the instruction the extended map gives for `op2`, or faults with PC past both bytes when `op2`
is outside IMPLEMENTED_CB. -/
def prefixed (op2 : Byte) (s : State) : State :=
  if Config.implementedCB op2 then extendedOp op2 s else s.unimplemented op2 2

/-- `NOP` (R260) -/
def execNop (s : State) : Out := .next (s.advance 1)

/-- `STOP` (R262) -/
def execStop (_n : Byte) (s : State) : Out := .next (s.unimplemented 0x10 1)

/-- `HALT` (R261) -/
def execHalt (s : State) : Out := .next (halt s)

/-- `PREFIX CB` (R265) -/
def execPrefixCB (op2 : Byte) (s : State) : Out := .next (prefixed op2 s)

/-- `illegal byte 0xD3` (R266) -/
def execIllegal_D3 (s : State) : Out := .next (s.unimplemented 0xD3 1)

/-- `illegal byte 0xDB` (R266) -/
def execIllegal_DB (s : State) : Out := .next (s.unimplemented 0xDB 1)

/-- `illegal byte 0xDD` (R266) -/
def execIllegal_DD (s : State) : Out := .next (s.unimplemented 0xDD 1)

/-- `illegal byte 0xE3` (R266) -/
def execIllegal_E3 (s : State) : Out := .next (s.unimplemented 0xE3 1)

/-- `illegal byte 0xE4` (R266) -/
def execIllegal_E4 (s : State) : Out := .next (s.unimplemented 0xE4 1)

/-- `illegal byte 0xEB` (R266) -/
def execIllegal_EB (s : State) : Out := .next (s.unimplemented 0xEB 1)

/-- `illegal byte 0xEC` (R266) -/
def execIllegal_EC (s : State) : Out := .next (s.unimplemented 0xEC 1)

/-- `illegal byte 0xED` (R266) -/
def execIllegal_ED (s : State) : Out := .next (s.unimplemented 0xED 1)

/-- `DI` (R263) -/
def execDi (s : State) : Out := .next (setIME false s)

/-- `illegal byte 0xF4` (R266) -/
def execIllegal_F4 (s : State) : Out := .next (s.unimplemented 0xF4 1)

/-- `EI` (R264) -/
def execEi (s : State) : Out := .next (setIME true s)

/-- `illegal byte 0xFC` (R266) -/
def execIllegal_FC (s : State) : Out := .next (s.unimplemented 0xFC 1)

/-- `illegal byte 0xFD` (R266) -/
def execIllegal_FD (s : State) : Out := .next (s.unimplemented 0xFD 1)

end Sys2Proof.Machine
end

