-- ==== Sys2Proof/Machine/Dispatch.lean ====
section
/-! DEFINITION. From an instruction to its meaning: one arm per constructor. -/

namespace Sys2Proof.Machine

def exec (i : Instr) (s : State) : Host.Outcome State Fault Refusal :=
  match i with
  -- System
  | .nop => Sys2Proof.Machine.execNop s
  -- Load16
  | .ld_BC_nn nn => Sys2Proof.Machine.execLd_BC_nn nn s
  -- Load8
  | .ld_atBC_A => Sys2Proof.Machine.execLd_atBC_A s
  -- Alu16
  | .inc_BC => Sys2Proof.Machine.execInc_BC s
  -- Alu8
  | .inc_B => Sys2Proof.Machine.execInc_B s
  | .dec_B => Sys2Proof.Machine.execDec_B s
  -- Load8
  | .ld_B_n n => Sys2Proof.Machine.execLd_B_n n s
  -- RotateShiftBit
  | .rlca => Sys2Proof.Machine.execRlca s
  -- Load16
  | .ld_atnn_SP nn => Sys2Proof.Machine.execLd_atnn_SP nn s
  -- Alu16
  | .add_HL_BC => Sys2Proof.Machine.execAdd_HL_BC s
  -- Load8
  | .ld_A_atBC => Sys2Proof.Machine.execLd_A_atBC s
  -- Alu16
  | .dec_BC => Sys2Proof.Machine.execDec_BC s
  -- Alu8
  | .inc_C => Sys2Proof.Machine.execInc_C s
  | .dec_C => Sys2Proof.Machine.execDec_C s
  -- Load8
  | .ld_C_n n => Sys2Proof.Machine.execLd_C_n n s
  -- RotateShiftBit
  | .rrca => Sys2Proof.Machine.execRrca s
  -- System
  | .stop n => Sys2Proof.Machine.execStop n s
  -- Load16
  | .ld_DE_nn nn => Sys2Proof.Machine.execLd_DE_nn nn s
  -- Load8
  | .ld_atDE_A => Sys2Proof.Machine.execLd_atDE_A s
  -- Alu16
  | .inc_DE => Sys2Proof.Machine.execInc_DE s
  -- Alu8
  | .inc_D => Sys2Proof.Machine.execInc_D s
  | .dec_D => Sys2Proof.Machine.execDec_D s
  -- Load8
  | .ld_D_n n => Sys2Proof.Machine.execLd_D_n n s
  -- RotateShiftBit
  | .rla => Sys2Proof.Machine.execRla s
  -- Control
  | .jr_e e => Sys2Proof.Machine.execJr_e e s
  -- Alu16
  | .add_HL_DE => Sys2Proof.Machine.execAdd_HL_DE s
  -- Load8
  | .ld_A_atDE => Sys2Proof.Machine.execLd_A_atDE s
  -- Alu16
  | .dec_DE => Sys2Proof.Machine.execDec_DE s
  -- Alu8
  | .inc_E => Sys2Proof.Machine.execInc_E s
  | .dec_E => Sys2Proof.Machine.execDec_E s
  -- Load8
  | .ld_E_n n => Sys2Proof.Machine.execLd_E_n n s
  -- RotateShiftBit
  | .rra => Sys2Proof.Machine.execRra s
  -- Control
  | .jr_NZ_e e => Sys2Proof.Machine.execJr_NZ_e e s
  -- Load16
  | .ld_HL_nn nn => Sys2Proof.Machine.execLd_HL_nn nn s
  -- Load8
  | .ldi_atHL_A => Sys2Proof.Machine.execLdi_atHL_A s
  -- Alu16
  | .inc_HL => Sys2Proof.Machine.execInc_HL s
  -- Alu8
  | .inc_H => Sys2Proof.Machine.execInc_H s
  | .dec_H => Sys2Proof.Machine.execDec_H s
  -- Load8
  | .ld_H_n n => Sys2Proof.Machine.execLd_H_n n s
  -- Alu8
  | .daa => Sys2Proof.Machine.execDaa s
  -- Control
  | .jr_Z_e e => Sys2Proof.Machine.execJr_Z_e e s
  -- Alu16
  | .add_HL_HL => Sys2Proof.Machine.execAdd_HL_HL s
  -- Load8
  | .ldi_A_atHL => Sys2Proof.Machine.execLdi_A_atHL s
  -- Alu16
  | .dec_HL => Sys2Proof.Machine.execDec_HL s
  -- Alu8
  | .inc_L => Sys2Proof.Machine.execInc_L s
  | .dec_L => Sys2Proof.Machine.execDec_L s
  -- Load8
  | .ld_L_n n => Sys2Proof.Machine.execLd_L_n n s
  -- Alu8
  | .cpl => Sys2Proof.Machine.execCpl s
  -- Control
  | .jr_NC_e e => Sys2Proof.Machine.execJr_NC_e e s
  -- Load16
  | .ld_SP_nn nn => Sys2Proof.Machine.execLd_SP_nn nn s
  -- Load8
  | .ldd_atHL_A => Sys2Proof.Machine.execLdd_atHL_A s
  -- Alu16
  | .inc_SP => Sys2Proof.Machine.execInc_SP s
  -- Alu8
  | .inc_atHL => Sys2Proof.Machine.execInc_atHL s
  | .dec_atHL => Sys2Proof.Machine.execDec_atHL s
  -- Load8
  | .ld_atHL_n n => Sys2Proof.Machine.execLd_atHL_n n s
  -- Alu8
  | .scf => Sys2Proof.Machine.execScf s
  -- Control
  | .jr_C_e e => Sys2Proof.Machine.execJr_C_e e s
  -- Alu16
  | .add_HL_SP => Sys2Proof.Machine.execAdd_HL_SP s
  -- Load8
  | .ldd_A_atHL => Sys2Proof.Machine.execLdd_A_atHL s
  -- Alu16
  | .dec_SP => Sys2Proof.Machine.execDec_SP s
  -- Alu8
  | .inc_A => Sys2Proof.Machine.execInc_A s
  | .dec_A => Sys2Proof.Machine.execDec_A s
  -- Load8
  | .ld_A_n n => Sys2Proof.Machine.execLd_A_n n s
  -- Alu8
  | .ccf => Sys2Proof.Machine.execCcf s
  -- Load8
  | .ld_B_B => Sys2Proof.Machine.execLd_B_B s
  | .ld_B_C => Sys2Proof.Machine.execLd_B_C s
  | .ld_B_D => Sys2Proof.Machine.execLd_B_D s
  | .ld_B_E => Sys2Proof.Machine.execLd_B_E s
  | .ld_B_H => Sys2Proof.Machine.execLd_B_H s
  | .ld_B_L => Sys2Proof.Machine.execLd_B_L s
  | .ld_B_atHL => Sys2Proof.Machine.execLd_B_atHL s
  | .ld_B_A => Sys2Proof.Machine.execLd_B_A s
  | .ld_C_B => Sys2Proof.Machine.execLd_C_B s
  | .ld_C_C => Sys2Proof.Machine.execLd_C_C s
  | .ld_C_D => Sys2Proof.Machine.execLd_C_D s
  | .ld_C_E => Sys2Proof.Machine.execLd_C_E s
  | .ld_C_H => Sys2Proof.Machine.execLd_C_H s
  | .ld_C_L => Sys2Proof.Machine.execLd_C_L s
  | .ld_C_atHL => Sys2Proof.Machine.execLd_C_atHL s
  | .ld_C_A => Sys2Proof.Machine.execLd_C_A s
  | .ld_D_B => Sys2Proof.Machine.execLd_D_B s
  | .ld_D_C => Sys2Proof.Machine.execLd_D_C s
  | .ld_D_D => Sys2Proof.Machine.execLd_D_D s
  | .ld_D_E => Sys2Proof.Machine.execLd_D_E s
  | .ld_D_H => Sys2Proof.Machine.execLd_D_H s
  | .ld_D_L => Sys2Proof.Machine.execLd_D_L s
  | .ld_D_atHL => Sys2Proof.Machine.execLd_D_atHL s
  | .ld_D_A => Sys2Proof.Machine.execLd_D_A s
  | .ld_E_B => Sys2Proof.Machine.execLd_E_B s
  | .ld_E_C => Sys2Proof.Machine.execLd_E_C s
  | .ld_E_D => Sys2Proof.Machine.execLd_E_D s
  | .ld_E_E => Sys2Proof.Machine.execLd_E_E s
  | .ld_E_H => Sys2Proof.Machine.execLd_E_H s
  | .ld_E_L => Sys2Proof.Machine.execLd_E_L s
  | .ld_E_atHL => Sys2Proof.Machine.execLd_E_atHL s
  | .ld_E_A => Sys2Proof.Machine.execLd_E_A s
  | .ld_H_B => Sys2Proof.Machine.execLd_H_B s
  | .ld_H_C => Sys2Proof.Machine.execLd_H_C s
  | .ld_H_D => Sys2Proof.Machine.execLd_H_D s
  | .ld_H_E => Sys2Proof.Machine.execLd_H_E s
  | .ld_H_H => Sys2Proof.Machine.execLd_H_H s
  | .ld_H_L => Sys2Proof.Machine.execLd_H_L s
  | .ld_H_atHL => Sys2Proof.Machine.execLd_H_atHL s
  | .ld_H_A => Sys2Proof.Machine.execLd_H_A s
  | .ld_L_B => Sys2Proof.Machine.execLd_L_B s
  | .ld_L_C => Sys2Proof.Machine.execLd_L_C s
  | .ld_L_D => Sys2Proof.Machine.execLd_L_D s
  | .ld_L_E => Sys2Proof.Machine.execLd_L_E s
  | .ld_L_H => Sys2Proof.Machine.execLd_L_H s
  | .ld_L_L => Sys2Proof.Machine.execLd_L_L s
  | .ld_L_atHL => Sys2Proof.Machine.execLd_L_atHL s
  | .ld_L_A => Sys2Proof.Machine.execLd_L_A s
  | .ld_atHL_B => Sys2Proof.Machine.execLd_atHL_B s
  | .ld_atHL_C => Sys2Proof.Machine.execLd_atHL_C s
  | .ld_atHL_D => Sys2Proof.Machine.execLd_atHL_D s
  | .ld_atHL_E => Sys2Proof.Machine.execLd_atHL_E s
  | .ld_atHL_H => Sys2Proof.Machine.execLd_atHL_H s
  | .ld_atHL_L => Sys2Proof.Machine.execLd_atHL_L s
  -- System
  | .halt => Sys2Proof.Machine.execHalt s
  -- Load8
  | .ld_atHL_A => Sys2Proof.Machine.execLd_atHL_A s
  | .ld_A_B => Sys2Proof.Machine.execLd_A_B s
  | .ld_A_C => Sys2Proof.Machine.execLd_A_C s
  | .ld_A_D => Sys2Proof.Machine.execLd_A_D s
  | .ld_A_E => Sys2Proof.Machine.execLd_A_E s
  | .ld_A_H => Sys2Proof.Machine.execLd_A_H s
  | .ld_A_L => Sys2Proof.Machine.execLd_A_L s
  | .ld_A_atHL => Sys2Proof.Machine.execLd_A_atHL s
  | .ld_A_A => Sys2Proof.Machine.execLd_A_A s
  -- Alu8
  | .add_A_B => Sys2Proof.Machine.execAdd_A_B s
  | .add_A_C => Sys2Proof.Machine.execAdd_A_C s
  | .add_A_D => Sys2Proof.Machine.execAdd_A_D s
  | .add_A_E => Sys2Proof.Machine.execAdd_A_E s
  | .add_A_H => Sys2Proof.Machine.execAdd_A_H s
  | .add_A_L => Sys2Proof.Machine.execAdd_A_L s
  | .add_A_atHL => Sys2Proof.Machine.execAdd_A_atHL s
  | .add_A_A => Sys2Proof.Machine.execAdd_A_A s
  | .adc_A_B => Sys2Proof.Machine.execAdc_A_B s
  | .adc_A_C => Sys2Proof.Machine.execAdc_A_C s
  | .adc_A_D => Sys2Proof.Machine.execAdc_A_D s
  | .adc_A_E => Sys2Proof.Machine.execAdc_A_E s
  | .adc_A_H => Sys2Proof.Machine.execAdc_A_H s
  | .adc_A_L => Sys2Proof.Machine.execAdc_A_L s
  | .adc_A_atHL => Sys2Proof.Machine.execAdc_A_atHL s
  | .adc_A_A => Sys2Proof.Machine.execAdc_A_A s
  | .sub_B => Sys2Proof.Machine.execSub_B s
  | .sub_C => Sys2Proof.Machine.execSub_C s
  | .sub_D => Sys2Proof.Machine.execSub_D s
  | .sub_E => Sys2Proof.Machine.execSub_E s
  | .sub_H => Sys2Proof.Machine.execSub_H s
  | .sub_L => Sys2Proof.Machine.execSub_L s
  | .sub_atHL => Sys2Proof.Machine.execSub_atHL s
  | .sub_A => Sys2Proof.Machine.execSub_A s
  | .sbc_A_B => Sys2Proof.Machine.execSbc_A_B s
  | .sbc_A_C => Sys2Proof.Machine.execSbc_A_C s
  | .sbc_A_D => Sys2Proof.Machine.execSbc_A_D s
  | .sbc_A_E => Sys2Proof.Machine.execSbc_A_E s
  | .sbc_A_H => Sys2Proof.Machine.execSbc_A_H s
  | .sbc_A_L => Sys2Proof.Machine.execSbc_A_L s
  | .sbc_A_atHL => Sys2Proof.Machine.execSbc_A_atHL s
  | .sbc_A_A => Sys2Proof.Machine.execSbc_A_A s
  | .and_B => Sys2Proof.Machine.execAnd_B s
  | .and_C => Sys2Proof.Machine.execAnd_C s
  | .and_D => Sys2Proof.Machine.execAnd_D s
  | .and_E => Sys2Proof.Machine.execAnd_E s
  | .and_H => Sys2Proof.Machine.execAnd_H s
  | .and_L => Sys2Proof.Machine.execAnd_L s
  | .and_atHL => Sys2Proof.Machine.execAnd_atHL s
  | .and_A => Sys2Proof.Machine.execAnd_A s
  | .xor_B => Sys2Proof.Machine.execXor_B s
  | .xor_C => Sys2Proof.Machine.execXor_C s
  | .xor_D => Sys2Proof.Machine.execXor_D s
  | .xor_E => Sys2Proof.Machine.execXor_E s
  | .xor_H => Sys2Proof.Machine.execXor_H s
  | .xor_L => Sys2Proof.Machine.execXor_L s
  | .xor_atHL => Sys2Proof.Machine.execXor_atHL s
  | .xor_A => Sys2Proof.Machine.execXor_A s
  | .or_B => Sys2Proof.Machine.execOr_B s
  | .or_C => Sys2Proof.Machine.execOr_C s
  | .or_D => Sys2Proof.Machine.execOr_D s
  | .or_E => Sys2Proof.Machine.execOr_E s
  | .or_H => Sys2Proof.Machine.execOr_H s
  | .or_L => Sys2Proof.Machine.execOr_L s
  | .or_atHL => Sys2Proof.Machine.execOr_atHL s
  | .or_A => Sys2Proof.Machine.execOr_A s
  | .cp_B => Sys2Proof.Machine.execCp_B s
  | .cp_C => Sys2Proof.Machine.execCp_C s
  | .cp_D => Sys2Proof.Machine.execCp_D s
  | .cp_E => Sys2Proof.Machine.execCp_E s
  | .cp_H => Sys2Proof.Machine.execCp_H s
  | .cp_L => Sys2Proof.Machine.execCp_L s
  | .cp_atHL => Sys2Proof.Machine.execCp_atHL s
  | .cp_A => Sys2Proof.Machine.execCp_A s
  -- Control
  | .ret_NZ => Sys2Proof.Machine.execRet_NZ s
  -- Load16
  | .pop_BC => Sys2Proof.Machine.execPop_BC s
  -- Control
  | .jp_NZ_nn nn => Sys2Proof.Machine.execJp_NZ_nn nn s
  | .jp_nn nn => Sys2Proof.Machine.execJp_nn nn s
  | .call_NZ_nn nn => Sys2Proof.Machine.execCall_NZ_nn nn s
  -- Load16
  | .push_BC => Sys2Proof.Machine.execPush_BC s
  -- Alu8
  | .add_A_n n => Sys2Proof.Machine.execAdd_A_n n s
  -- Control
  | .rst_00H => Sys2Proof.Machine.execRst_00H s
  | .ret_Z => Sys2Proof.Machine.execRet_Z s
  | .ret => Sys2Proof.Machine.execRet s
  | .jp_Z_nn nn => Sys2Proof.Machine.execJp_Z_nn nn s
  -- System
  | .prefixCB op2 => Sys2Proof.Machine.execPrefixCB op2 s
  -- Control
  | .call_Z_nn nn => Sys2Proof.Machine.execCall_Z_nn nn s
  | .call_nn nn => Sys2Proof.Machine.execCall_nn nn s
  -- Alu8
  | .adc_A_n n => Sys2Proof.Machine.execAdc_A_n n s
  -- Control
  | .rst_08H => Sys2Proof.Machine.execRst_08H s
  | .ret_NC => Sys2Proof.Machine.execRet_NC s
  -- Load16
  | .pop_DE => Sys2Proof.Machine.execPop_DE s
  -- Control
  | .jp_NC_nn nn => Sys2Proof.Machine.execJp_NC_nn nn s
  -- System
  | .illegal_D3 => Sys2Proof.Machine.execIllegal_D3 s
  -- Control
  | .call_NC_nn nn => Sys2Proof.Machine.execCall_NC_nn nn s
  -- Load16
  | .push_DE => Sys2Proof.Machine.execPush_DE s
  -- Alu8
  | .sub_n n => Sys2Proof.Machine.execSub_n n s
  -- Control
  | .rst_10H => Sys2Proof.Machine.execRst_10H s
  | .ret_C => Sys2Proof.Machine.execRet_C s
  | .reti => Sys2Proof.Machine.execReti s
  | .jp_C_nn nn => Sys2Proof.Machine.execJp_C_nn nn s
  -- System
  | .illegal_DB => Sys2Proof.Machine.execIllegal_DB s
  -- Control
  | .call_C_nn nn => Sys2Proof.Machine.execCall_C_nn nn s
  -- System
  | .illegal_DD => Sys2Proof.Machine.execIllegal_DD s
  -- Alu8
  | .sbc_A_n n => Sys2Proof.Machine.execSbc_A_n n s
  -- Control
  | .rst_18H => Sys2Proof.Machine.execRst_18H s
  -- Load8
  | .ldh_atn_A n => Sys2Proof.Machine.execLdh_atn_A n s
  -- Load16
  | .pop_HL => Sys2Proof.Machine.execPop_HL s
  -- Load8
  | .ld_atC_A => Sys2Proof.Machine.execLd_atC_A s
  -- System
  | .illegal_E3 => Sys2Proof.Machine.execIllegal_E3 s
  | .illegal_E4 => Sys2Proof.Machine.execIllegal_E4 s
  -- Load16
  | .push_HL => Sys2Proof.Machine.execPush_HL s
  -- Alu8
  | .and_n n => Sys2Proof.Machine.execAnd_n n s
  -- Control
  | .rst_20H => Sys2Proof.Machine.execRst_20H s
  -- Alu16
  | .add_SP_e e => Sys2Proof.Machine.execAdd_SP_e e s
  -- Control
  | .jp_HL => Sys2Proof.Machine.execJp_HL s
  -- Load8
  | .ld_atnn_A nn => Sys2Proof.Machine.execLd_atnn_A nn s
  -- System
  | .illegal_EB => Sys2Proof.Machine.execIllegal_EB s
  | .illegal_EC => Sys2Proof.Machine.execIllegal_EC s
  | .illegal_ED => Sys2Proof.Machine.execIllegal_ED s
  -- Alu8
  | .xor_n n => Sys2Proof.Machine.execXor_n n s
  -- Control
  | .rst_28H => Sys2Proof.Machine.execRst_28H s
  -- Load8
  | .ldh_A_atn n => Sys2Proof.Machine.execLdh_A_atn n s
  -- Load16
  | .pop_AF => Sys2Proof.Machine.execPop_AF s
  -- Load8
  | .ld_A_atC => Sys2Proof.Machine.execLd_A_atC s
  -- System
  | .di => Sys2Proof.Machine.execDi s
  | .illegal_F4 => Sys2Proof.Machine.execIllegal_F4 s
  -- Load16
  | .push_AF => Sys2Proof.Machine.execPush_AF s
  -- Alu8
  | .or_n n => Sys2Proof.Machine.execOr_n n s
  -- Control
  | .rst_30H => Sys2Proof.Machine.execRst_30H s
  -- Alu16
  | .ld_HL_SPe e => Sys2Proof.Machine.execLd_HL_SPe e s
  -- Load16
  | .ld_SP_HL => Sys2Proof.Machine.execLd_SP_HL s
  -- Load8
  | .ld_A_atnn nn => Sys2Proof.Machine.execLd_A_atnn nn s
  -- System
  | .ei => Sys2Proof.Machine.execEi s
  | .illegal_FC => Sys2Proof.Machine.execIllegal_FC s
  | .illegal_FD => Sys2Proof.Machine.execIllegal_FD s
  -- Alu8
  | .cp_n n => Sys2Proof.Machine.execCp_n n s
  -- Control
  | .rst_38H => Sys2Proof.Machine.execRst_38H s
  -- RotateShiftBit
  | .rlc_B => Sys2Proof.Machine.execRlc_B s
  | .rlc_C => Sys2Proof.Machine.execRlc_C s
  | .rlc_D => Sys2Proof.Machine.execRlc_D s
  | .rlc_E => Sys2Proof.Machine.execRlc_E s
  | .rlc_H => Sys2Proof.Machine.execRlc_H s
  | .rlc_L => Sys2Proof.Machine.execRlc_L s
  | .rlc_atHL => Sys2Proof.Machine.execRlc_atHL s
  | .rlc_A => Sys2Proof.Machine.execRlc_A s
  | .rrc_B => Sys2Proof.Machine.execRrc_B s
  | .rrc_C => Sys2Proof.Machine.execRrc_C s
  | .rrc_D => Sys2Proof.Machine.execRrc_D s
  | .rrc_E => Sys2Proof.Machine.execRrc_E s
  | .rrc_H => Sys2Proof.Machine.execRrc_H s
  | .rrc_L => Sys2Proof.Machine.execRrc_L s
  | .rrc_atHL => Sys2Proof.Machine.execRrc_atHL s
  | .rrc_A => Sys2Proof.Machine.execRrc_A s
  | .rl_B => Sys2Proof.Machine.execRl_B s
  | .rl_C => Sys2Proof.Machine.execRl_C s
  | .rl_D => Sys2Proof.Machine.execRl_D s
  | .rl_E => Sys2Proof.Machine.execRl_E s
  | .rl_H => Sys2Proof.Machine.execRl_H s
  | .rl_L => Sys2Proof.Machine.execRl_L s
  | .rl_atHL => Sys2Proof.Machine.execRl_atHL s
  | .rl_A => Sys2Proof.Machine.execRl_A s
  | .rr_B => Sys2Proof.Machine.execRr_B s
  | .rr_C => Sys2Proof.Machine.execRr_C s
  | .rr_D => Sys2Proof.Machine.execRr_D s
  | .rr_E => Sys2Proof.Machine.execRr_E s
  | .rr_H => Sys2Proof.Machine.execRr_H s
  | .rr_L => Sys2Proof.Machine.execRr_L s
  | .rr_atHL => Sys2Proof.Machine.execRr_atHL s
  | .rr_A => Sys2Proof.Machine.execRr_A s
  | .sla_B => Sys2Proof.Machine.execSla_B s
  | .sla_C => Sys2Proof.Machine.execSla_C s
  | .sla_D => Sys2Proof.Machine.execSla_D s
  | .sla_E => Sys2Proof.Machine.execSla_E s
  | .sla_H => Sys2Proof.Machine.execSla_H s
  | .sla_L => Sys2Proof.Machine.execSla_L s
  | .sla_atHL => Sys2Proof.Machine.execSla_atHL s
  | .sla_A => Sys2Proof.Machine.execSla_A s
  | .sra_B => Sys2Proof.Machine.execSra_B s
  | .sra_C => Sys2Proof.Machine.execSra_C s
  | .sra_D => Sys2Proof.Machine.execSra_D s
  | .sra_E => Sys2Proof.Machine.execSra_E s
  | .sra_H => Sys2Proof.Machine.execSra_H s
  | .sra_L => Sys2Proof.Machine.execSra_L s
  | .sra_atHL => Sys2Proof.Machine.execSra_atHL s
  | .sra_A => Sys2Proof.Machine.execSra_A s
  | .swap_B => Sys2Proof.Machine.execSwap_B s
  | .swap_C => Sys2Proof.Machine.execSwap_C s
  | .swap_D => Sys2Proof.Machine.execSwap_D s
  | .swap_E => Sys2Proof.Machine.execSwap_E s
  | .swap_H => Sys2Proof.Machine.execSwap_H s
  | .swap_L => Sys2Proof.Machine.execSwap_L s
  | .swap_atHL => Sys2Proof.Machine.execSwap_atHL s
  | .swap_A => Sys2Proof.Machine.execSwap_A s
  | .srl_B => Sys2Proof.Machine.execSrl_B s
  | .srl_C => Sys2Proof.Machine.execSrl_C s
  | .srl_D => Sys2Proof.Machine.execSrl_D s
  | .srl_E => Sys2Proof.Machine.execSrl_E s
  | .srl_H => Sys2Proof.Machine.execSrl_H s
  | .srl_L => Sys2Proof.Machine.execSrl_L s
  | .srl_atHL => Sys2Proof.Machine.execSrl_atHL s
  | .srl_A => Sys2Proof.Machine.execSrl_A s
  | .bit_b_B b => Sys2Proof.Machine.execBit_b_B b s
  | .bit_b_C b => Sys2Proof.Machine.execBit_b_C b s
  | .bit_b_D b => Sys2Proof.Machine.execBit_b_D b s
  | .bit_b_E b => Sys2Proof.Machine.execBit_b_E b s
  | .bit_b_H b => Sys2Proof.Machine.execBit_b_H b s
  | .bit_b_L b => Sys2Proof.Machine.execBit_b_L b s
  | .bit_b_atHL b => Sys2Proof.Machine.execBit_b_atHL b s
  | .bit_b_A b => Sys2Proof.Machine.execBit_b_A b s
  | .res_b_B b => Sys2Proof.Machine.execRes_b_B b s
  | .res_b_C b => Sys2Proof.Machine.execRes_b_C b s
  | .res_b_D b => Sys2Proof.Machine.execRes_b_D b s
  | .res_b_E b => Sys2Proof.Machine.execRes_b_E b s
  | .res_b_H b => Sys2Proof.Machine.execRes_b_H b s
  | .res_b_L b => Sys2Proof.Machine.execRes_b_L b s
  | .res_b_atHL b => Sys2Proof.Machine.execRes_b_atHL b s
  | .res_b_A b => Sys2Proof.Machine.execRes_b_A b s
  | .set_b_B b => Sys2Proof.Machine.execSet_b_B b s
  | .set_b_C b => Sys2Proof.Machine.execSet_b_C b s
  | .set_b_D b => Sys2Proof.Machine.execSet_b_D b s
  | .set_b_E b => Sys2Proof.Machine.execSet_b_E b s
  | .set_b_H b => Sys2Proof.Machine.execSet_b_H b s
  | .set_b_L b => Sys2Proof.Machine.execSet_b_L b s
  | .set_b_atHL b => Sys2Proof.Machine.execSet_b_atHL b s
  | .set_b_A b => Sys2Proof.Machine.execSet_b_A b s

end Sys2Proof.Machine
end

