-- ==== Sys2Proof/Machine/Graphics.lean ====
section
/-! DEFINITION. The graphics timing unit (60_exceptions.md R330 to R338): the mode state machine, line rendering and frame delivery. It
reads VRAM and its registers, and writes LY and IF bit 0, directly (R76, R77). -/

namespace Sys2Proof.Machine

/-- `dur(mode)`, the length of a mode in dots (R331). -/
def GfxMode.dur : GfxMode → Nat
  | .oamScan => 80
  | .pixelTransfer => 172
  | .hBlank => 204
  | .vBlank => 456

/-- The colour of the framebuffer at row `y`, column `x` (R50). -/
def Picture.pixel (p : Picture) (y x : Nat) : Rgb := Sparse.get (fun _ => Config.fbBlank) p (y * 160 + x)

/-- `fb[y][x] <- colour`. -/
def Picture.setPixel (p : Picture) (y x : Nat) (colour : Rgb) : Picture :=
  Sparse.put (fun _ => Config.fbBlank) p (y * 160 + x) colour

/-- The canonical form of a picture: `Sparse.Wf`, and every key is a pixel of the 160 by 144 grid. -/
abbrev Picture.wf (p : Picture) : Prop := Sparse.Wf (fun _ => Config.fbBlank) p ∧ ∀ c ∈ p, c.1 < 160 * 144

/-- Whether the background is enabled: LCDC bit 0 (R43, R335). -/
def bgEnabled (lcdc : Byte) : Bool := lcdc.getLsbD 0

/-- The background row line `ly` shows (R335): vertical scroll wraps modulo 256. -/
def bgRow (ly scy : Byte) : Nat := (ly.toNat + scy.toNat) % 256

/-- The address of the tile map LCDC selects (R43, R335): bit 3. -/
def tileMapBase (lcdc : Byte) : Nat := if lcdc.getLsbD 3 then 0x9C00 else 0x9800

/-- The address of tile `idx` (R43, R335): LCDC bit 4 selects unsigned indices from 0x8000 or signed ones from 0x9000. -/
def tileBase (lcdc idx : Byte) : Nat :=
  if lcdc.getLsbD 4 then 0x8000 + idx.toNat * 16 else (0x9000 + idx.toInt * 16).toNat

/-- The colour index of pixel `px` of a tile row from its two bit-planes (R335): bit 7 is the leftmost pixel. -/
def colourIndex (lo hi : Byte) (px : Nat) : Nat :=
  2 * (hi.getLsbD (7 - px)).toNat + (lo.getLsbD (7 - px)).toNat

/-- The shade the palette gives a colour index (R46, R335). -/
def paletteShade (bgp : Byte) (ci : Nat) : BitVec 2 := bgp.extractLsb' (2 * ci) 2

/-- The shade of pixel `px` of background tile column `tc` on the current line (R335), from VRAM and the registers as they are. -/
def bgShade (s : State) (tc px : Nat) : BitVec 2 :=
  let row := bgRow (s.dev lyAddr) (s.dev scyAddr)
  let idx := s.dev (tileMapBase (s.dev lcdcAddr) + row / 8 * 32 + tc)
  let plane := tileBase (s.dev lcdcAddr) idx + row % 8 * 2
  paletteShade (s.dev bgpAddr) (colourIndex (s.dev plane) (s.dev (plane + 1)) px)

/-- Draws background pixel `px` of tile column `tc` (R335): at the screen column `tc*8 + px - SCX`, skipped outside 0..159; no
horizontal wrap (R336). -/
def drawPixel (s : State) (tc px : Nat) : State :=
  let x : Int := (tc * 8 + px : Nat) - ((s.dev scxAddr).toNat : Int)
  if 0 ≤ x ∧ x < 160 then
    { s with fb := s.fb.setPixel (s.dev lyAddr).toNat x.toNat (Config.shadeRgb (bgShade s tc px)) }
  else s

/-- `RenderLine()` (R335): 32 tile columns of 8 pixels each, in order; with the background disabled the row is untouched. -/
def renderLine (s : State) : State :=
  if bgEnabled (s.dev lcdcAddr) then
    (List.range 32).foldl (fun t tc => (List.range 8).foldl (fun u px => drawPixel u tc px) t) s
  else s

/-- `DeliverFrame()` (R337): emits the framebuffer whole, then every pixel is FB_BLANK. -/
def deliverFrame (s : State) : State := { s with frames := s.frames ++ [s.fb], fb := [] }

/-- The end of HBlank (R333): LY up by one; at 144 the VBlank request, the delivery and VBlank mode. -/
def hBlankEnd (s : State) : State :=
  let ly := s.dev lyAddr + 1
  let t := s.devWrite lyAddr ly
  if ly = 144 then
    { deliverFrame (t.devWrite ifAddr (t.dev ifAddr ||| 0x01)) with mode := .vBlank }
  else { t with mode := .oamScan }

/-- The end of a VBlank line (R334): LY up by one; at 154 it wraps to 0 and OAM-scan begins. -/
def vBlankLineEnd (s : State) : State :=
  let ly := s.dev lyAddr + 1
  if ly = 154 then { s.devWrite lyAddr 0 with mode := .oamScan } else s.devWrite lyAddr ly

/-- One transition of the mode machine (R331, R332, D10): the mode's length off the dot counter, the remainder carried. -/
def gfxTransition (s : State) : State :=
  let t := { s with dot := s.dot - s.mode.dur }
  match s.mode with
  | .oamScan => { t with mode := .pixelTransfer }
  | .pixelTransfer => { renderLine t with mode := .hBlank }
  | .hBlank => hBlankEnd t
  | .vBlank => vBlankLineEnd t

/-- `while dot >= dur(mode)` of R332, with fuel; the dot counter itself is enough. -/
def gfxLoop : Nat → State → State
  | 0, s => s
  | fuel + 1, s => if s.mode.dur ≤ s.dot then gfxLoop fuel (gfxTransition s) else s

/-- `GfxStep(c)` (R332). -/
def gfxStep (c : Nat) (s : State) : State := gfxLoop (s.dot + c) { s with dot := s.dot + c }

end Sys2Proof.Machine
end

