-- ==== Sys2Proof/Machine/Interrupts.lean ====
section
/-! DEFINITION. Interrupt dispatch (60_exceptions.md R310 to R319). Taking one is `State.takeInterrupt`, the return is
`State.returnFromInterrupt`, both in Machine/Ops.lean. -/

namespace Sys2Proof.Machine

/-- The requests both enabled and raised: `IE & IF & 0x1F` (R313). -/
def State.pendingInterrupts (s : State) : Byte := s.dev ieAddr &&& s.dev ifAddr &&& 0x1F

/-- The least set bit among the five, the first in priority (R313, R314). -/
def leastSource (pending : Byte) : Nat :=
  if pending.getLsbD 0 then 0
  else if pending.getLsbD 1 then 1
  else if pending.getLsbD 2 then 2
  else if pending.getLsbD 3 then 3
  else 4

/-- `InterruptDispatch()` (R313): with nothing pending nothing changes; otherwise the halt ends, and with IME set the first source in
priority is taken. -/
def interruptDispatch (s : State) : State :=
  if s.pendingInterrupts = 0 then s
  else if s.ime then { s with halted := false }.takeInterrupt (leastSource s.pendingInterrupts)
  else { s with halted := false }

end Sys2Proof.Machine
end

