-- ==== Sys2Proof/Machine/Timer.lean ====
section
/-! DEFINITION. The interval timer (60_exceptions.md R320 to R323): a device that reads and changes its registers directly (R77). The
spec's loops are written with fuel; the accumulator itself is enough, since every turn takes a positive amount off it. -/

namespace Sys2Proof.Machine

/-- One DIV increment (R322, D9): 256 off the accumulator, DIV up by one, wrapping. -/
def divTick (s : State) : State :=
  { s with divAcc := s.divAcc - 256, mem := Memory.poke s.mem divAddr (Memory.peek s.mem divAddr + 1) }

/-- `while div_acc >= 256` of R322. -/
def divLoop : Nat → State → State
  | 0, s => s
  | fuel + 1, s => if 256 ≤ s.divAcc then divLoop fuel (divTick s) else s

/-- The threshold TAC selects (R40, R322). -/
def timaThreshold (tac : Byte) : Nat :=
  match (tac.extractLsb' 0 2).toNat with
  | 0 => 1024
  | 1 => 16
  | 2 => 64
  | _ => 256

/-- Whether TAC enables the counter (R40): bit 2. -/
def timaEnabled (tac : Byte) : Bool := tac.getLsbD 2

/-- One TIMA increment (R322, D8): `th` off the accumulator; past 255 TIMA reloads from TMA and IF bit 2 is set in the same step. -/
def timaTick (th : Nat) (s : State) : State :=
  let t := { s with timaAcc := s.timaAcc - th }
  if t.dev timaAddr = 0xFF then
    let u := t.devWrite timaAddr (t.dev tmaAddr)
    u.devWrite ifAddr (u.dev ifAddr ||| 0x04)
  else t.devWrite timaAddr (t.dev timaAddr + 1)

/-- `while tima_acc > th` of R322: the threshold must be exceeded. -/
def timaLoop (th : Nat) : Nat → State → State
  | 0, s => s
  | fuel + 1, s => if th < s.timaAcc then timaLoop th fuel (timaTick th s) else s

/-- The divider's half of `TimerStep(c)` (R322). -/
def divStep (c : Nat) (s : State) : State :=
  divLoop (s.divAcc + c) { s with divAcc := s.divAcc + c }

/-- The counter's half of `TimerStep(c)` (R322): nothing at all while disabled. -/
def timaStep (c : Nat) (s : State) : State :=
  if timaEnabled (s.dev tacAddr) then
    timaLoop (timaThreshold (s.dev tacAddr)) (s.timaAcc + c) { s with timaAcc := s.timaAcc + c }
  else s

/-- `TimerStep(c)` (R322). -/
def timerStep (c : Nat) (s : State) : State := timaStep c (divStep c s)

end Sys2Proof.Machine
end

