-- ==== Sys2Proof/Machine/MachineStep.lean ====
section
/-! DEFINITION. The CPU step (46_system.md R268) and the machine step (00_scope.md R6). -/

namespace Sys2Proof.Machine

/-- The opcode byte at PC and the instruction it starts, read through the bus like any data (R83, R268). The two bytes after are read with
it, whether or not the instruction has them: a read changes nothing (R61), and the instruction uses only its own (log entry 7). -/
def fetch (s : State) : Option (Byte × Instr) :=
  match Memory.busRead s.mem s.pc, Memory.busRead s.mem (s.pc + 1), Memory.busRead s.mem (s.pc + 2) with
  | some b0, some b1, some b2 => some (b0, decodeBytes b0 b1 b2)
  | _, _, _ => none

/-- The fetched instruction executed: its meaning, or the fault of R267 for an opcode outside IMPLEMENTED. -/
def execFetched (b0 : Byte) (i : Instr) (s : State) : Out :=
  if Config.implemented b0 then exec i s else .next (s.unimplemented b0 1)

/-- What the CPU step answers after an execution: the state with the cost added, and the cost. An instruction that latched a
fault costs nothing (R268, R301). -/
def charge (i : Instr) (before after : State) : State × Nat :=
  if after.fault.isSome then (after, 0)
  else ({ after with cyc := after.cyc + (cost i).cycles before }, (cost i).cycles before)

/-- `CpuStep()` (R268): the state after and the cycles consumed. Halted, it fetches nothing and costs HALT_IDLE_CYCLES. -/
def cpuStep (s : State) : Host.Outcome (State × Nat) Fault Refusal :=
  if s.halted then .next ({ s with cyc := s.cyc + Config.haltIdleCycles }, Config.haltIdleCycles)
  else
    match fetch s with
    | none => .next (s.raise (.decodeMiss s.pc), 0)
    | some (b0, i) =>
      match execFetched b0 i s with
      | .next t => .next (charge i s t)
      | .fault f => .fault f
      | .refused r => .refused r

/-- The devices and the dispatch after a CPU step of `c` cycles, in the fixed order (R6); after a fault they do not run (R301). -/
def afterCpu (c : Nat) (t : State) : State :=
  if t.fault.isSome then t else interruptDispatch (gfxStep c (timerStep c t))

/-- `MachineStep()` (R6). A faulted state has no step: the latched fault is answered (R303; log entry 6). -/
def machineStep (s : State) : Out :=
  match s.fault with
  | some f => .fault f
  | none =>
    match cpuStep s with
    | .next (t, c) => .next (afterCpu c t)
    | .fault f => .fault f
    | .refused r => .refused r

/-- Stores `v` in the cell behind address `a`, ROM included: what loading an image does, not a bus write. -/
def State.load (s : State) (a : Word) (v : Byte) : State := s.devWrite (Memory.home a) v

end Sys2Proof.Machine
end

