-- ==== Sys2Proof/Machine/Step.lean ====
section
/-! DEFINITION. The step the host runs, and the placing of an instruction where the next step fetches it. -/

namespace Sys2Proof.Machine

/-- One MachineStep (R6). -/
def step (s : State) : Host.Outcome State Fault Refusal := machineStep s

/-- `s` with an opcode-table word in the three bytes at PC, where the next step fetches, and with the CPU able to fetch: not
halted, no fault latched. It stands for the loading of a program image from outside the machine (R7; log entries 2 and 20). -/
def State.withFetchWord (s : State) (nbits w : Nat) : State :=
  let b := tableBytes nbits w
  { ((s.load s.pc b.1).load (s.pc + 1) b.2.1).load (s.pc + 2) b.2.2 with halted := false, fault := none }

end Sys2Proof.Machine
end

