-- ==== Sys2Proof/Safety.lean ====
section
/-! DEFINITION. What holds of the machine between steps: the invariants the spec states of its state, in one structure. -/

namespace Sys2Proof.Machine

/-- The invariants of 10_state.md, all of them kept by every step (claimed in Certificates/Slice0/Obligations.lean). -/
structure Inv (s : State) : Prop where
  /-- F[3:0] = 0 (R23). -/
  flags_low : s.af &&& 0x000F = 0
  /-- Memory is in its canonical form. -/
  mem_wf : Memory.wf s.mem
  /-- Bits 7..5 of IF are 1 (R41). -/
  if_high : s.dev ifAddr &&& 0xE0 = 0xE0
  /-- LY is in 0..153 (R45). -/
  ly_range : (s.dev lyAddr).toNat ≤ 153
  /-- The lines 144 to 153 are those of VBlank mode (R331). -/
  vblank_lines : s.mode = .vBlank ↔ 144 ≤ (s.dev lyAddr).toNat
  /-- The dot counter is below the mode's length (R49). -/
  dot_range : s.dot < s.mode.dur
  /-- The divider's accumulator is below 256 (R48). -/
  div_range : s.divAcc < 256
  /-- The counter's accumulator is at most 1024 (R48). -/
  tima_range : s.timaAcc ≤ 1024
  /-- The framebuffer is in its canonical form. -/
  fb_wf : Picture.wf s.fb

end Sys2Proof.Machine
end

