-- ==== Sys2Proof/Certificates/Slice0/Obligations.lean ====
section
/-! DEFINITION. The statements for the provers. The words they are written in come first (namespace `Sys2Proof.Claims`): what it is for an
instruction to run, its frame, what a store leaves, and the tables of the forms each rule names with their opcodes. Formulas are those of the
spec's rules, written over numbers and not with the model's own functions. Where a statement names a cost in cycles, that is
the default of the parameter CYCLES (log entry 4). -/

namespace Sys2Proof.Claims

open Sys2Proof.Machine

/-! ### Words -/

/-- `v[7:0]` (R10). -/
abbrev lo8 (v : Word) : Byte := v.extractLsb' 0 8

/-- `v[15:8]` (R10). -/
abbrev hi8 (v : Word) : Byte := v.extractLsb' 8 8

/-! ### Running one instruction -/

/-- The bytes `code` decode to `i` whatever follows them; in state `s`, `i` costs `cyc` cycles and answers the next state `t`. -/
def RunsTo (i : Instr) (code : List Byte) (cyc : Nat) (s t : State) : Prop :=
  (∀ rest, decode (code ++ rest) = .ok (i, rest)) ∧ (cost i).cycles s = cyc ∧ exec i s = .next t

/-- As `RunsTo`, for some next state that has property `P`. -/
def Runs (i : Instr) (code : List Byte) (cyc : Nat) (s : State) (P : State → Prop) : Prop :=
  ∃ t, RunsTo i code cyc s t ∧ P t

/-- PC has moved past the `n` bytes of the instruction. -/
def Falls (n : Word) (s t : State) : Prop := t.pc = s.pc + n

/-- The eight-bit registers that hold data, and the halves of SP. F and PC have their own words, `FlagsKept` and `Falls`. -/
def dataRegs : List Reg8 := [.A, .B, .C, .D, .E, .H, .L, .SPh, .SPl]

/-- Every one of `dataRegs` but those in `changed` is as before. -/
def RegsKept (changed : List Reg8) (s t : State) : Prop := ∀ x ∈ dataRegs, x ∉ changed → t.r8 x = s.r8 x

/-- The flags byte is as before, bits 3..0 too. -/
def FlagsKept (s t : State) : Prop := t.r8 .F = s.r8 .F

/-- The four flags say whether the four conditions hold, and bits 3..0 of F are 0 (R23). -/
def FlagsAre (t : State) (z n h c : Prop) : Prop :=
  (t.flag .Z = true ↔ z) ∧ (t.flag .N = true ↔ n) ∧ (t.flag .H = true ↔ h) ∧ (t.flag .C = true ↔ c) ∧
    (t.r8 .F).extractLsb' 0 4 = 0

/-- Every byte of the address space reads as before, and no Diagnostic event was emitted. -/
def MemKept (s t : State) : Prop := (∀ a, t.byte a = s.byte a) ∧ t.diags = s.diags

/-- IME, the halted flag, the cycle counter, the fault latch, the devices' hidden state and the Frame trace are as before. -/
structure Apart (s t : State) : Prop where
  ime : t.ime = s.ime
  halted : t.halted = s.halted
  cyc : t.cyc = s.cyc
  fault : t.fault = s.fault
  divAcc : t.divAcc = s.divAcc
  timaAcc : t.timaAcc = s.timaAcc
  mode : t.mode = s.mode
  dot : t.dot = s.dot
  fb : t.fb = s.fb
  frames : t.frames = s.frames

/-- The byte halves of a pair (R21). -/
def halves : Reg16 → List Reg8
  | .AF => [.A, .F]
  | .BC => [.B, .C]
  | .DE => [.D, .E]
  | .HL => [.H, .L]
  | .SP => [.SPh, .SPl]
  | .PC => [.PCh, .PCl]

/-! ### Stores -/

/-- Addresses `a` and `b` are one cell: they are equal, or one is in the echo window and the other 0x2000 below it (R69). -/
def SameCell (a b : Word) : Prop :=
  b = a ∨ (0xE000 ≤ b.toNat ∧ b.toNat ≤ 0xFDFF ∧ b.toNat = a.toNat + 0x2000) ∨
    (0xE000 ≤ a.toNat ∧ a.toNat ≤ 0xFDFF ∧ a.toNat = b.toNat + 0x2000)

/-- What the cell of address `a` holds after a CPU write of `v`, if it held `old` (R65, R72, R73, and plain storage elsewhere). -/
def storedAs (a : Word) (v old : Byte) : Byte :=
  if a.toNat < 0x8000 ∨ a = 0xFF44 then old else if a = 0xFF0F then v ||| 0xE0 else v

/-- The one byte stored is `v` at `a`, in every address of that cell; every other byte reads as before; and 0x81 at SC emits SB (R62, R74). -/
def Stored (a : Word) (v : Byte) (s t : State) : Prop :=
  (∀ b, SameCell a b → t.byte b = storedAs a v (s.byte a)) ∧ (∀ b, ¬SameCell a b → t.byte b = s.byte b) ∧
    t.diags = if a = 0xFF02 ∧ v = 0x81 then s.diags ++ [s.byte 0xFF01] else s.diags

/-- The word stored is `v`, its low byte at `a` and then its high byte at `a + 1`, each with its own effect; every other byte reads as
before. A high byte of 0x81 that lands at SC emits the low byte, which is SB by then (R63). -/
def StoredWord (a v : Word) (s t : State) : Prop :=
  (∀ b, SameCell a b → t.byte b = storedAs a (lo8 v) (s.byte a)) ∧
    (∀ b, SameCell (a + 1) b → t.byte b = storedAs (a + 1) (hi8 v) (s.byte (a + 1))) ∧
    (∀ b, ¬SameCell a b → ¬SameCell (a + 1) b → t.byte b = s.byte b) ∧
    t.diags =
      if a = 0xFF02 ∧ lo8 v = 0x81 then s.diags ++ [s.byte 0xFF01]
      else if a = 0xFF01 ∧ hi8 v = 0x81 then s.diags ++ [lo8 v] else s.diags

/-! ### Shapes of results -/

/-- Register `d` has become `v` and nothing else has changed, but for PC. -/
def LoadsReg (d : Reg8) (v : Byte) (n : Word) (s t : State) : Prop :=
  t.r8 d = v ∧ RegsKept [d] s t ∧ FlagsKept s t ∧ MemKept s t ∧ Apart s t ∧ Falls n s t

/-- Pair `p` has become `v` and nothing else has changed, but for PC. -/
def LoadsPair (p : Reg16) (v : Word) (n : Word) (s t : State) : Prop :=
  t.r16 p = v ∧ RegsKept (halves p) s t ∧ FlagsKept s t ∧ MemKept s t ∧ Apart s t ∧ Falls n s t

/-- Byte `v` has been stored at `a` and nothing else has changed, but for PC. -/
def StoresByte (a : Word) (v : Byte) (n : Word) (s t : State) : Prop :=
  Stored a v s t ∧ RegsKept [] s t ∧ FlagsKept s t ∧ Apart s t ∧ Falls n s t

/-- Only A and the flags have changed, and PC. -/
def OnlyAAndFlags (n : Word) (s t : State) : Prop := RegsKept [.A] s t ∧ MemKept s t ∧ Apart s t ∧ Falls n s t

/-- `Add8(A, v, cin)` in A and the flags (R160). -/
def AddsToA (v : Byte) (cin : Bool) (n : Word) (s t : State) : Prop :=
  (t.r8 .A).toNat = ((s.r8 .A).toNat + v.toNat + cin.toNat) % 256 ∧
    FlagsAre t (((s.r8 .A).toNat + v.toNat + cin.toNat) % 256 = 0) False
      ((s.r8 .A).toNat % 16 + v.toNat % 16 + cin.toNat > 15) ((s.r8 .A).toNat + v.toNat + cin.toNat > 255) ∧
    OnlyAAndFlags n s t

/-- The flags of `Sub8(A, v, cin)` (R161): H and C say that a difference is negative. -/
def SubFlags (v : Byte) (cin : Bool) (s t : State) : Prop :=
  FlagsAre t ((((s.r8 .A).toNat : Int) - v.toNat - cin.toNat) % 256 = 0) True
    ((((s.r8 .A).toNat % 16 : Nat) : Int) - ((v.toNat % 16 : Nat) : Int) - cin.toNat < 0)
    (((s.r8 .A).toNat : Int) - v.toNat - cin.toNat < 0)

/-- `Sub8(A, v, cin)` in A and the flags (R161). -/
def SubsFromA (v : Byte) (cin : Bool) (n : Word) (s t : State) : Prop :=
  ((t.r8 .A).toNat : Int) = (((s.r8 .A).toNat : Int) - v.toNat - cin.toNat) % 256 ∧ SubFlags v cin s t ∧ OnlyAAndFlags n s t

/-- The flags of `Sub8(A, v, 0)`, and A unchanged (R184). -/
def ComparesA (v : Byte) (n : Word) (s t : State) : Prop :=
  SubFlags v false s t ∧ RegsKept [] s t ∧ MemKept s t ∧ Apart s t ∧ Falls n s t

/-- A has become `res`; Z says it is 0, N and C are clear, H is `h` (R162). -/
def LogicToA (res : Byte) (h : Prop) (n : Word) (s t : State) : Prop :=
  t.r8 .A = res ∧ FlagsAre t (res = 0) False h False ∧ OnlyAAndFlags n s t

/-- Register `r` has become `v`, the flags are the four given, and nothing else has changed, but for PC. -/
def RegAndFlags (r : Reg8) (v : Nat) (z n h c : Prop) (len : Word) (s t : State) : Prop :=
  (t.r8 r).toNat = v ∧ FlagsAre t z n h c ∧ RegsKept [r] s t ∧ MemKept s t ∧ Apart s t ∧ Falls len s t

/-- Byte `v` has been stored at `a`, the flags are the four given, and nothing else has changed, but for PC. -/
def CellAndFlags (a : Word) (v : Nat) (z n h c : Prop) (len : Word) (s t : State) : Prop :=
  Stored a (BitVec.ofNat 8 v) s t ∧ FlagsAre t z n h c ∧ RegsKept [] s t ∧ Apart s t ∧ Falls len s t

/-- The result of a shift function as a number (R231). -/
def shiftValue (f : Shift) (v : Nat) (cin : Bool) : Nat :=
  match f with
  | .rlc => v * 2 % 256 + v / 128
  | .rrc => v % 2 * 128 + v / 2
  | .rl => v * 2 % 256 + cin.toNat
  | .rr => cin.toNat * 128 + v / 2
  | .sla => v * 2 % 256
  | .sra => v / 128 * 128 + v / 2
  | .swap => v % 16 * 16 + v / 16
  | .srl => v / 2

/-- Whether a shift function moves out a 1 (R231). -/
def shiftsOut (f : Shift) (v : Nat) : Prop :=
  match f with
  | .rlc => v ≥ 128
  | .rrc => v % 2 = 1
  | .rl => v ≥ 128
  | .rr => v % 2 = 1
  | .sla => v ≥ 128
  | .sra => v % 2 = 1
  | .swap => False
  | .srl => v % 2 = 1

/-- `v` with bit `b` as `on` says and every other bit as before (R254 to R257). -/
def withBit (v : Byte) (b : BitVec 3) (on : Bool) : Byte :=
  if on then v ||| 1#8 <<< b.toNat else v &&& ~~~(1#8 <<< b.toNat)

/-! ### The forms of each rule -/

/-- `LD r,r'` (R130): the instruction, its opcode, the destination, the source. -/
def ldRegReg : List (Instr × Byte × Reg8 × Reg8) := [
  (.ld_B_B, 0x40, .B, .B), (.ld_B_C, 0x41, .B, .C), (.ld_B_D, 0x42, .B, .D), (.ld_B_E, 0x43, .B, .E),
  (.ld_B_H, 0x44, .B, .H), (.ld_B_L, 0x45, .B, .L), (.ld_B_A, 0x47, .B, .A), (.ld_C_B, 0x48, .C, .B),
  (.ld_C_C, 0x49, .C, .C), (.ld_C_D, 0x4A, .C, .D), (.ld_C_E, 0x4B, .C, .E), (.ld_C_H, 0x4C, .C, .H),
  (.ld_C_L, 0x4D, .C, .L), (.ld_C_A, 0x4F, .C, .A), (.ld_D_B, 0x50, .D, .B), (.ld_D_C, 0x51, .D, .C),
  (.ld_D_D, 0x52, .D, .D), (.ld_D_E, 0x53, .D, .E), (.ld_D_H, 0x54, .D, .H), (.ld_D_L, 0x55, .D, .L),
  (.ld_D_A, 0x57, .D, .A), (.ld_E_B, 0x58, .E, .B), (.ld_E_C, 0x59, .E, .C), (.ld_E_D, 0x5A, .E, .D),
  (.ld_E_E, 0x5B, .E, .E), (.ld_E_H, 0x5C, .E, .H), (.ld_E_L, 0x5D, .E, .L), (.ld_E_A, 0x5F, .E, .A),
  (.ld_H_B, 0x60, .H, .B), (.ld_H_C, 0x61, .H, .C), (.ld_H_D, 0x62, .H, .D), (.ld_H_E, 0x63, .H, .E),
  (.ld_H_H, 0x64, .H, .H), (.ld_H_L, 0x65, .H, .L), (.ld_H_A, 0x67, .H, .A), (.ld_L_B, 0x68, .L, .B),
  (.ld_L_C, 0x69, .L, .C), (.ld_L_D, 0x6A, .L, .D), (.ld_L_E, 0x6B, .L, .E), (.ld_L_H, 0x6C, .L, .H),
  (.ld_L_L, 0x6D, .L, .L), (.ld_L_A, 0x6F, .L, .A), (.ld_A_B, 0x78, .A, .B), (.ld_A_C, 0x79, .A, .C),
  (.ld_A_D, 0x7A, .A, .D), (.ld_A_E, 0x7B, .A, .E), (.ld_A_H, 0x7C, .A, .H), (.ld_A_L, 0x7D, .A, .L),
  (.ld_A_A, 0x7F, .A, .A)]

/-- `LD r,n` (R131): the instruction, its opcode, the destination. -/
def ldRegImm : List ((Byte → Instr) × Byte × Reg8) := [
  (.ld_B_n, 0x06, .B), (.ld_C_n, 0x0E, .C), (.ld_D_n, 0x16, .D), (.ld_E_n, 0x1E, .E),
  (.ld_H_n, 0x26, .H), (.ld_L_n, 0x2E, .L), (.ld_A_n, 0x3E, .A)]

/-- `LD r,(HL)` (R132). -/
def ldRegHL : List (Instr × Byte × Reg8) := [
  (.ld_B_atHL, 0x46, .B), (.ld_C_atHL, 0x4E, .C), (.ld_D_atHL, 0x56, .D), (.ld_E_atHL, 0x5E, .E),
  (.ld_H_atHL, 0x66, .H), (.ld_L_atHL, 0x6E, .L), (.ld_A_atHL, 0x7E, .A)]

/-- `LD (HL),r` (R133). -/
def ldHLReg : List (Instr × Byte × Reg8) := [
  (.ld_atHL_B, 0x70, .B), (.ld_atHL_C, 0x71, .C), (.ld_atHL_D, 0x72, .D), (.ld_atHL_E, 0x73, .E),
  (.ld_atHL_H, 0x74, .H), (.ld_atHL_L, 0x75, .L), (.ld_atHL_A, 0x77, .A)]

/-- `LD rr,nn` (R150). -/
def ldPairImm : List ((Word → Instr) × Byte × Reg16) := [
  (.ld_BC_nn, 0x01, .BC), (.ld_DE_nn, 0x11, .DE), (.ld_HL_nn, 0x21, .HL), (.ld_SP_nn, 0x31, .SP)]

/-- `PUSH rr` (R153). -/
def pushPairs : List (Instr × Byte × Reg16) := [
  (.push_BC, 0xC5, .BC), (.push_DE, 0xD5, .DE), (.push_HL, 0xE5, .HL), (.push_AF, 0xF5, .AF)]

/-- `POP rr` but for AF (R154). -/
def popPairs : List (Instr × Byte × Reg16) := [
  (.pop_BC, 0xC1, .BC), (.pop_DE, 0xD1, .DE), (.pop_HL, 0xE1, .HL)]

/-- `ADD` with a register (R163). -/
def addReg : List (Instr × Byte × Reg8) := [
  (.add_A_B, 0x80, .B), (.add_A_C, 0x81, .C), (.add_A_D, 0x82, .D), (.add_A_E, 0x83, .E),
  (.add_A_H, 0x84, .H), (.add_A_L, 0x85, .L), (.add_A_A, 0x87, .A)]

/-- `ADC` with a register (R166). -/
def adcReg : List (Instr × Byte × Reg8) := [
  (.adc_A_B, 0x88, .B), (.adc_A_C, 0x89, .C), (.adc_A_D, 0x8A, .D), (.adc_A_E, 0x8B, .E),
  (.adc_A_H, 0x8C, .H), (.adc_A_L, 0x8D, .L), (.adc_A_A, 0x8F, .A)]

/-- `SUB` with a register (R169). -/
def subReg : List (Instr × Byte × Reg8) := [
  (.sub_B, 0x90, .B), (.sub_C, 0x91, .C), (.sub_D, 0x92, .D), (.sub_E, 0x93, .E),
  (.sub_H, 0x94, .H), (.sub_L, 0x95, .L), (.sub_A, 0x97, .A)]

/-- `SBC` with a register (R172). -/
def sbcReg : List (Instr × Byte × Reg8) := [
  (.sbc_A_B, 0x98, .B), (.sbc_A_C, 0x99, .C), (.sbc_A_D, 0x9A, .D), (.sbc_A_E, 0x9B, .E),
  (.sbc_A_H, 0x9C, .H), (.sbc_A_L, 0x9D, .L), (.sbc_A_A, 0x9F, .A)]

/-- `AND` with a register (R175). -/
def andReg : List (Instr × Byte × Reg8) := [
  (.and_B, 0xA0, .B), (.and_C, 0xA1, .C), (.and_D, 0xA2, .D), (.and_E, 0xA3, .E),
  (.and_H, 0xA4, .H), (.and_L, 0xA5, .L), (.and_A, 0xA7, .A)]

/-- `XOR` with a register (R178). -/
def xorReg : List (Instr × Byte × Reg8) := [
  (.xor_B, 0xA8, .B), (.xor_C, 0xA9, .C), (.xor_D, 0xAA, .D), (.xor_E, 0xAB, .E),
  (.xor_H, 0xAC, .H), (.xor_L, 0xAD, .L), (.xor_A, 0xAF, .A)]

/-- `OR` with a register (R181). -/
def orReg : List (Instr × Byte × Reg8) := [
  (.or_B, 0xB0, .B), (.or_C, 0xB1, .C), (.or_D, 0xB2, .D), (.or_E, 0xB3, .E),
  (.or_H, 0xB4, .H), (.or_L, 0xB5, .L), (.or_A, 0xB7, .A)]

/-- `CP` with a register (R184). -/
def cpReg : List (Instr × Byte × Reg8) := [
  (.cp_B, 0xB8, .B), (.cp_C, 0xB9, .C), (.cp_D, 0xBA, .D), (.cp_E, 0xBB, .E),
  (.cp_H, 0xBC, .H), (.cp_L, 0xBD, .L), (.cp_A, 0xBF, .A)]

/-- `INC r` (R187). -/
def incReg : List (Instr × Byte × Reg8) := [
  (.inc_B, 0x04, .B), (.inc_C, 0x0C, .C), (.inc_D, 0x14, .D), (.inc_E, 0x1C, .E),
  (.inc_H, 0x24, .H), (.inc_L, 0x2C, .L), (.inc_A, 0x3C, .A)]

/-- `DEC r` (R189). -/
def decReg : List (Instr × Byte × Reg8) := [
  (.dec_B, 0x05, .B), (.dec_C, 0x0D, .C), (.dec_D, 0x15, .D), (.dec_E, 0x1D, .E),
  (.dec_H, 0x25, .H), (.dec_L, 0x2D, .L), (.dec_A, 0x3D, .A)]

/-- `ADD HL,rr` (R201). -/
def addHLPair : List (Instr × Byte × Reg16) := [
  (.add_HL_BC, 0x09, .BC), (.add_HL_DE, 0x19, .DE), (.add_HL_HL, 0x29, .HL), (.add_HL_SP, 0x39, .SP)]

/-- `INC rr` (R202). -/
def incPair : List (Instr × Byte × Reg16) := [
  (.inc_BC, 0x03, .BC), (.inc_DE, 0x13, .DE), (.inc_HL, 0x23, .HL), (.inc_SP, 0x33, .SP)]

/-- `DEC rr` (R203). -/
def decPair : List (Instr × Byte × Reg16) := [
  (.dec_BC, 0x0B, .BC), (.dec_DE, 0x1B, .DE), (.dec_HL, 0x2B, .HL), (.dec_SP, 0x3B, .SP)]

/-- `JP cc,nn` (R212): the instruction, its opcode, and the flag with the value it must have for the transfer (R210). -/
def jpIfForms : List ((Word → Instr) × Byte × Flag × Bool) := [
  (.jp_NZ_nn, 0xC2, .Z, false), (.jp_Z_nn, 0xCA, .Z, true), (.jp_NC_nn, 0xD2, .C, false), (.jp_C_nn, 0xDA, .C, true)]

/-- `JR cc,e` (R215): the instruction, its opcode, and the flag with the value it must have for the transfer (R210). -/
def jrIfForms : List ((Byte → Instr) × Byte × Flag × Bool) := [
  (.jr_NZ_e, 0x20, .Z, false), (.jr_Z_e, 0x28, .Z, true), (.jr_NC_e, 0x30, .C, false), (.jr_C_e, 0x38, .C, true)]

/-- `CALL cc,nn` (R217): the instruction, its opcode, and the flag with the value it must have for the transfer (R210). -/
def callIfForms : List ((Word → Instr) × Byte × Flag × Bool) := [
  (.call_NZ_nn, 0xC4, .Z, false), (.call_Z_nn, 0xCC, .Z, true), (.call_NC_nn, 0xD4, .C, false), (.call_C_nn, 0xDC, .C, true)]

/-- `RET cc` (R219): the instruction, its opcode, and the flag with the value it must have for the transfer (R210). -/
def retIfForms : List (Instr × Byte × Flag × Bool) := [
  (.ret_NZ, 0xC0, .Z, false), (.ret_Z, 0xC8, .Z, true), (.ret_NC, 0xD0, .C, false), (.ret_C, 0xD8, .C, true)]

/-- `RST t` (R221). -/
def rstForms : List (Instr × Byte × Word) := [
  (.rst_00H, 0xC7, 0x0000), (.rst_08H, 0xCF, 0x0008), (.rst_10H, 0xD7, 0x0010), (.rst_18H, 0xDF, 0x0018),
  (.rst_20H, 0xE7, 0x0020), (.rst_28H, 0xEF, 0x0028), (.rst_30H, 0xF7, 0x0030), (.rst_38H, 0xFF, 0x0038)]

/-- RLCA, RRCA, RLA, RRA (R232 to R235). -/
def rotateAForms : List (Instr × Byte × Shift) := [
  (.rlca, 0x07, .rlc), (.rla, 0x17, .rl), (.rrca, 0x0F, .rrc), (.rra, 0x1F, .rr)]

/-- The shift functions on a register (R236, R238, ..., R250): the instruction, its second byte, the function, the register. -/
def shiftReg : List (Instr × Byte × Shift × Reg8) := [
  (.rlc_B, 0x00, .rlc, .B), (.rlc_C, 0x01, .rlc, .C), (.rlc_D, 0x02, .rlc, .D), (.rlc_E, 0x03, .rlc, .E),
  (.rlc_H, 0x04, .rlc, .H), (.rlc_L, 0x05, .rlc, .L), (.rlc_A, 0x07, .rlc, .A), (.rrc_B, 0x08, .rrc, .B),
  (.rrc_C, 0x09, .rrc, .C), (.rrc_D, 0x0A, .rrc, .D), (.rrc_E, 0x0B, .rrc, .E), (.rrc_H, 0x0C, .rrc, .H),
  (.rrc_L, 0x0D, .rrc, .L), (.rrc_A, 0x0F, .rrc, .A), (.rl_B, 0x10, .rl, .B), (.rl_C, 0x11, .rl, .C),
  (.rl_D, 0x12, .rl, .D), (.rl_E, 0x13, .rl, .E), (.rl_H, 0x14, .rl, .H), (.rl_L, 0x15, .rl, .L),
  (.rl_A, 0x17, .rl, .A), (.rr_B, 0x18, .rr, .B), (.rr_C, 0x19, .rr, .C), (.rr_D, 0x1A, .rr, .D),
  (.rr_E, 0x1B, .rr, .E), (.rr_H, 0x1C, .rr, .H), (.rr_L, 0x1D, .rr, .L), (.rr_A, 0x1F, .rr, .A),
  (.sla_B, 0x20, .sla, .B), (.sla_C, 0x21, .sla, .C), (.sla_D, 0x22, .sla, .D), (.sla_E, 0x23, .sla, .E),
  (.sla_H, 0x24, .sla, .H), (.sla_L, 0x25, .sla, .L), (.sla_A, 0x27, .sla, .A), (.sra_B, 0x28, .sra, .B),
  (.sra_C, 0x29, .sra, .C), (.sra_D, 0x2A, .sra, .D), (.sra_E, 0x2B, .sra, .E), (.sra_H, 0x2C, .sra, .H),
  (.sra_L, 0x2D, .sra, .L), (.sra_A, 0x2F, .sra, .A), (.swap_B, 0x30, .swap, .B), (.swap_C, 0x31, .swap, .C),
  (.swap_D, 0x32, .swap, .D), (.swap_E, 0x33, .swap, .E), (.swap_H, 0x34, .swap, .H), (.swap_L, 0x35, .swap, .L),
  (.swap_A, 0x37, .swap, .A), (.srl_B, 0x38, .srl, .B), (.srl_C, 0x39, .srl, .C), (.srl_D, 0x3A, .srl, .D),
  (.srl_E, 0x3B, .srl, .E), (.srl_H, 0x3C, .srl, .H), (.srl_L, 0x3D, .srl, .L), (.srl_A, 0x3F, .srl, .A)]

/-- The shift functions on (HL) (R237, R239, ..., R251). -/
def shiftHL : List (Instr × Byte × Shift) := [
  (.rlc_atHL, 0x06, .rlc), (.rrc_atHL, 0x0E, .rrc), (.rl_atHL, 0x16, .rl), (.rr_atHL, 0x1E, .rr),
  (.sla_atHL, 0x26, .sla), (.sra_atHL, 0x2E, .sra), (.swap_atHL, 0x36, .swap), (.srl_atHL, 0x3E, .srl)]

/-- `BIT b,r` (R252): the instruction, the second byte for b = 0, the register. -/
def bitReg : List ((BitVec 3 → Instr) × Nat × Reg8) := [
  (.bit_b_B, 0x40, .B), (.bit_b_C, 0x41, .C), (.bit_b_D, 0x42, .D), (.bit_b_E, 0x43, .E),
  (.bit_b_H, 0x44, .H), (.bit_b_L, 0x45, .L), (.bit_b_A, 0x47, .A)]

/-- `RES b,r` (R254): the instruction, the second byte for b = 0, the register. -/
def resReg : List ((BitVec 3 → Instr) × Nat × Reg8) := [
  (.res_b_B, 0x80, .B), (.res_b_C, 0x81, .C), (.res_b_D, 0x82, .D), (.res_b_E, 0x83, .E),
  (.res_b_H, 0x84, .H), (.res_b_L, 0x85, .L), (.res_b_A, 0x87, .A)]

/-- `SET b,r` (R256): the instruction, the second byte for b = 0, the register. -/
def setReg : List ((BitVec 3 → Instr) × Nat × Reg8) := [
  (.set_b_B, 0xC0, .B), (.set_b_C, 0xC1, .C), (.set_b_D, 0xC2, .D), (.set_b_E, 0xC3, .E),
  (.set_b_H, 0xC4, .H), (.set_b_L, 0xC5, .L), (.set_b_A, 0xC7, .A)]

/-- The eleven illegal opcodes (R266). -/
def illegalForms : List (Instr × Byte) := [
  (.illegal_D3, 0xD3), (.illegal_DB, 0xDB), (.illegal_DD, 0xDD), (.illegal_E3, 0xE3),
  (.illegal_E4, 0xE4), (.illegal_EB, 0xEB), (.illegal_EC, 0xEC), (.illegal_ED, 0xED),
  (.illegal_F4, 0xF4), (.illegal_FC, 0xFC), (.illegal_FD, 0xFD)]

/-- The first bytes of three-byte instructions (R112). -/
def threeByteOpcodes : List Byte :=
  [0x01, 0x11, 0x21, 0x31, 0x08, 0xC2, 0xC3, 0xC4, 0xCA, 0xCC, 0xCD, 0xD2, 0xD4, 0xDA, 0xDC, 0xEA, 0xFA]

/-- The first bytes of two-byte instructions (R112): OP_D8, OP_E8 and the extended opcode byte. -/
def twoByteOpcodes : List Byte :=
  [0x06, 0x0E, 0x16, 0x1E, 0x26, 0x2E, 0x36, 0x3E, 0xC6, 0xCE, 0xD6, 0xDE, 0xE6, 0xEE, 0xF6, 0xFE, 0xE0, 0xF0, 0x10] ++
    [0x18, 0x20, 0x28, 0x30, 0x38, 0xE8, 0xF8] ++ [0xCB]

/-- The length byte 0 alone tells (R112). -/
def lengthOf (b0 : Byte) : Nat := if b0 ∈ threeByteOpcodes then 3 else if b0 ∈ twoByteOpcodes then 2 else 1

/-- The primary bytes outside the default IMPLEMENTED: the eleven illegal ones and STOP (R262, R266). -/
def unimplementedOpcodes : List Byte := [0x10, 0xD3, 0xDB, 0xDD, 0xE3, 0xE4, 0xEB, 0xEC, 0xED, 0xF4, 0xFC, 0xFD]

/-- The instructions that write PC other than by moving past themselves: jumps, calls, returns and restarts (R25). -/
def transfersControl : Instr → Bool
  | .jp_nn _ | .jp_NZ_nn _ | .jp_Z_nn _ | .jp_NC_nn _ | .jp_C_nn _ | .jp_HL => true
  | .jr_e _ | .jr_NZ_e _ | .jr_Z_e _ | .jr_NC_e _ | .jr_C_e _ => true
  | .call_nn _ | .call_NZ_nn _ | .call_Z_nn _ | .call_NC_nn _ | .call_C_nn _ => true
  | .ret | .ret_NZ | .ret_Z | .ret_NC | .ret_C | .reti => true
  | .rst_00H | .rst_08H | .rst_10H | .rst_18H | .rst_20H | .rst_28H | .rst_30H | .rst_38H => true
  | _ => false

/-- The instructions that write SP: LD SP,nn, LD SP,HL, INC SP, DEC SP, ADD SP,e, and every push and pop (R26). -/
def writesSP : Instr → Bool
  | .ld_SP_nn _ | .ld_SP_HL | .inc_SP | .dec_SP | .add_SP_e _ => true
  | .push_BC | .push_DE | .push_HL | .push_AF | .pop_BC | .pop_DE | .pop_HL | .pop_AF => true
  | .call_nn _ | .call_NZ_nn _ | .call_Z_nn _ | .call_NC_nn _ | .call_C_nn _ => true
  | .ret | .ret_NZ | .ret_Z | .ret_NC | .ret_C | .reti => true
  | .rst_00H | .rst_08H | .rst_10H | .rst_18H | .rst_20H | .rst_28H | .rst_30H | .rst_38H => true
  | _ => false

/-- IME after an instruction, from IME before it: EI and RETI set it, DI clears it (R27). -/
def imeAfter : Instr → Bool → Bool
  | .ei, _ => true
  | .reti, _ => true
  | .di, _ => false
  | _, b => b

/-! ### Interrupts and devices -/

/-- Source `i` is both enabled in IE and requested in IF (R311, R313). -/
def Pending (s : State) (i : Nat) : Prop := i < 5 ∧ (s.byte 0xFFFF).getLsbD i = true ∧ (s.byte 0xFF0F).getLsbD i = true

/-- The first and last address of a window (R60). -/
def windowBounds : Window → Nat × Nat
  | .rom => (0x0000, 0x7FFF)
  | .vram => (0x8000, 0x9FFF)
  | .xram => (0xA000, 0xBFFF)
  | .wram => (0xC000, 0xDFFF)
  | .echo => (0xE000, 0xFDFF)
  | .oam => (0xFE00, 0xFEFF)
  | .io => (0xFF00, 0xFF7F)
  | .hram => (0xFF80, 0xFFFF)

/-- The threshold TAC selects (R40). -/
def threshold (tac : Byte) : Nat := [1024, 16, 64, 256].getD (tac.toNat % 4) 0

/-- One increment of TIMA: past 255 it reloads from TMA (R38). -/
def timaNext (tma v : Byte) : Byte := if v = 0xFF then tma else v + 1

/-- The dots of its line a mode begins after (R331): lines of VBlank are one mode of 456 dots. -/
def modeStart : GfxMode → Nat
  | .oamScan => 0
  | .pixelTransfer => 80
  | .hBlank => 252
  | .vBlank => 0

/-- How many dots into its frame the graphics unit is: 456 a line, 70224 a frame (R331). -/
def framePos (s : State) : Nat := (s.byte 0xFF44).toNat * 456 + modeStart s.mode + s.dot

/-- The mode at a position in the frame (R331). -/
def modeAt (p : Nat) : GfxMode :=
  if 144 ≤ p / 456 then .vBlank else if p % 456 < 80 then .oamScan else if p % 456 < 252 then .pixelTransfer else .hBlank

/-- The colour of column `col` of the background line that line LY shows (R335). -/
def bgColour (s : State) (col : Nat) : Rgb :=
  let row := ((s.byte 0xFF44).toNat + (s.byte 0xFF42).toNat) % 256
  let map : Nat := if (s.byte 0xFF40).getLsbD 3 then 0x9C00 else 0x9800
  let idx := s.byte (BitVec.ofNat 16 (map + row / 8 * 32 + col / 8))
  let base : Int := if (s.byte 0xFF40).getLsbD 4 then 0x8000 + idx.toNat * 16 else 0x9000 + idx.toInt * 16
  let lo := s.byte (BitVec.ofInt 16 (base + (row % 8 * 2 : Nat)))
  let hi := s.byte (BitVec.ofInt 16 (base + (row % 8 * 2 + 1 : Nat)))
  let ci := hi.toNat / 2 ^ (7 - col % 8) % 2 * 2 + lo.toNat / 2 ^ (7 - col % 8) % 2
  Config.shadeRgb (BitVec.ofNat 2 ((s.byte 0xFF47).toNat / 4 ^ ci))

end Sys2Proof.Claims

open Sys2Proof Sys2Proof.Machine Sys2Proof.Claims

/-! ### Encoding -/

/-- Decoding the bytes of any well-formed instruction gives it back, with every operand, and consumes exactly them, whatever
follows (30_encoding.md R100, R103, R105, R106). -/
def Obligations.DecodeOfEncode : Prop :=
  ∀ i, WellFormed i = true → ∀ rest, decode (encode i ++ rest) = .ok (i, rest)

/-- Any three bytes hold one instruction, well-formed, and encoding it gives those of the bytes it consists of: no byte is lost and no two
words mean the same (30_encoding.md R100, R105, R106). -/
def Obligations.EncodeOfDecode : Prop :=
  ∀ b0 b1 b2, WellFormed (decodeBytes b0 b1 b2) = true ∧ ∃ rest, encode (decodeBytes b0 b1 b2) ++ rest = [b0, b1, b2]

/-- Words written out from the spec's encodings, one of a family, decode to the instructions they stand for (R105, R106). -/
def Obligations.SampleWordsDecode : Prop :=
  decode [0x01, 0x34, 0x12] = .ok (.ld_BC_nn 0x1234, []) ∧ decode [0x3E, 0x81] = .ok (.ld_A_n 0x81, []) ∧
  decode [0x78] = .ok (.ld_A_B, []) ∧ decode [0x76] = .ok (.halt, []) ∧ decode [0x87] = .ok (.add_A_A, []) ∧
  decode [0xE8, 0x02] = .ok (.add_SP_e 0x02, []) ∧ decode [0xCA, 0x00, 0x80] = .ok (.jp_Z_nn 0x8000, []) ∧
  decode [0xEF] = .ok (.rst_28H, []) ∧ decode [0xCB, 0x37] = .ok (.swap_A, []) ∧ decode [0xCB, 0xCB] = .ok (.set_b_E 1, []) ∧
  decode [0xCB, 0x76] = .ok (.bit_b_atHL 6, [])

/-- Decoding is total: byte 0 alone tells the length, and the instruction depends on that many bytes and no more (R112). -/
def Obligations.LengthByFirstByte : Prop :=
  ∀ b0 b1 b2 rest, ∃ i, (encode i).length = lengthOf b0 ∧
    decode (b0 :: b1 :: b2 :: rest) = .ok (i, (b0 :: b1 :: b2 :: rest).drop (lengthOf b0)) ∧
    decode ((b0 :: b1 :: b2 :: rest).take (lengthOf b0)) = .ok (i, [])

/-! ### The machine step -/

/-- A step of a running, unfaulted machine runs the instruction that the bytes at PC decode to, adds its cost, and then runs Timer, Graphics and
dispatch with that cost; an instruction that latches a fault ends the step (00_scope.md R6, 46_system.md R268, R301). -/
def Obligations.StepRunsTheFetchedInstruction : Prop :=
  ∀ s i rest, s.fault = none → s.halted = false →
    decode [s.byte s.pc, s.byte (s.pc + 1), s.byte (s.pc + 2)] = .ok (i, rest) →
    ∃ t, exec i s = .next t ∧
      step s = .next (if t.fault = none then
          interruptDispatch (gfxStep ((cost i).cycles s) (timerStep ((cost i).cycles s) { t with cyc := t.cyc + (cost i).cycles s }))
        else t)

/-- A step of a halted machine fetches nothing: 4 cycles pass and the devices and the dispatch run (R268; HALT_IDLE_CYCLES is the spec's
decision D5, log entry 13). -/
def Obligations.HaltedStepIdles : Prop :=
  ∀ s, s.fault = none → s.halted = true →
    step s = .next (interruptDispatch (gfxStep 4 (timerStep 4 { s with cyc := s.cyc + 4 })))

/-- A faulted machine has no further step: the latched fault is answered. No instruction, interrupt or device clears the latch or changes it, and
none does anything else for its being set (60_exceptions.md R303, 10_state.md R30). That the step answers the fault is the model's choice of
the forms R303 allows (log entry 6), and so is that an opcode that faults in a latched state keeps the first fault (log entry 22). -/
def Obligations.FaultedMachineIsStuck : Prop :=
  ∀ s f, s.fault = some f → step s = .fault f ∧
    (∀ i, ∃ t g, exec i s = .next t ∧ t.fault = some f ∧ exec i { s with fault := none } = .next { t with fault := g }) ∧
    interruptDispatch s = { interruptDispatch { s with fault := none } with fault := some f } ∧
    ∀ c, timerStep c s = { timerStep c { s with fault := none } with fault := some f } ∧
      gfxStep c s = { gfxStep c { s with fault := none } with fault := some f }

/-- An unfaulted machine always has a step, and the step latches a fault exactly when it fetches an unimplemented byte; the fault is
then that byte's, with the address it was fetched from (R84, R300 to R302, R268). -/
def Obligations.OnlyUnimplementedOpcodesFault : Prop :=
  ∀ s, s.fault = none → ∃ t, step s = .next t ∧
    (t.fault = none ↔ s.halted = true ∨ s.byte s.pc ∉ unimplementedOpcodes) ∧
    ∀ f, t.fault = some f → f = .unimplementedOpcode (s.byte s.pc) s.pc

/-- A step that latches no fault adds to the cycle counter a multiple of 4 from 4 to 24; one that does adds nothing (R414, R301; the
figures are the default CYCLES, log entry 4, and a dispatch costs 0, log entry 13). -/
def Obligations.StepCostIsBounded : Prop :=
  ∀ s, s.fault = none → ∃ t, step s = .next t ∧
    (t.fault = none → ∃ c, 4 ≤ c ∧ c ≤ 24 ∧ c % 4 = 0 ∧ t.cyc = s.cyc + c) ∧ (t.fault ≠ none → t.cyc = s.cyc)

/-- Every step keeps the invariants of the state: F[3:0] = 0, memory and framebuffer canonical, IF bits 7..5 set, LY in 0..153 and in
VBlank mode exactly from 144, dot and accumulators in range (R23, R41, R45, R48, R49, R331). -/
def Obligations.StepKeepsInvariant : Prop :=
  ∀ s t, Machine.Inv s → step s = .next t → Inv t

/-- What reset leaves, of the values the spec decides (R53, decisions D3 and D30; log entries 1 to 3), and that the invariants hold there. -/
def Obligations.ResetState : Prop :=
  (∀ p, State.reset.r16 p = 0x0000) ∧ (∀ a, State.reset.byte a = if a = 0xFF0F then 0xE0 else 0x00) ∧
  State.reset.ime = false ∧ State.reset.halted = false ∧ State.reset.cyc = 0 ∧ State.reset.fault = none ∧
  State.reset.divAcc = 0 ∧ State.reset.timaAcc = 0 ∧ State.reset.mode = .oamScan ∧ State.reset.dot = 0 ∧
  (∀ y x, State.reset.fb.pixel y x = Config.fbBlank) ∧ State.reset.diags = [] ∧ State.reset.frames = [] ∧
  Machine.Inv State.reset

/-! ### Registers and flags -/

/-- The byte and word views of a pair are one storage; AF's low byte keeps only bits 7..4 (R22). -/
def Obligations.PairAndHalvesAgree : Prop :=
  (∀ (s : State) p x y, halves p = [x, y] → p ≠ .AF → ∀ v,
    (s.setR16 p v).r16 p = v ∧ (s.setR16 p v).r8 x = hi8 v ∧ (s.setR16 p v).r8 y = lo8 v) ∧
  (∀ (s : State) p x y, halves p = [x, y] → ∀ b,
    (s.setR8 x b).r8 x = b ∧ (s.setR8 x b).r8 y = s.r8 y ∧ (s.setR8 x b).r16 p = b ++ s.r8 y ∧
    (p ≠ .AF → (s.setR8 y b).r8 y = b ∧ (s.setR8 y b).r16 p = s.r8 x ++ b) ∧ (s.setR8 y b).r8 x = s.r8 x) ∧
  (∀ (s : State) v b, (s.setR16 .AF v).r16 .AF = v &&& 0xFFF0 ∧ (s.setR16 .AF v).r8 .A = hi8 v ∧
    (s.setR16 .AF v).r8 .F = lo8 v &&& 0xF0 ∧ (s.setR8 .F b).r8 .F = b &&& 0xF0)

/-- A flag is its bit of F; setting or clearing one flag sets or clears it and alters neither the other three nor A (R24). -/
def Obligations.FlagIsolation : Prop :=
  (∀ s : State, s.flag .Z = (s.r8 .F).getLsbD 7 ∧ s.flag .N = (s.r8 .F).getLsbD 6 ∧ s.flag .H = (s.r8 .F).getLsbD 5 ∧
    s.flag .C = (s.r8 .F).getLsbD 4) ∧
  ∀ (s : State) f, (s.setFlag f).flag f = true ∧ (s.clearFlag f).flag f = false ∧
    (∀ g, g ≠ f → (s.setFlag f).flag g = s.flag g ∧ (s.clearFlag f).flag g = s.flag g) ∧
    (s.setFlag f).r8 .A = s.r8 .A ∧ (s.clearFlag f).r8 .A = s.r8 .A

/-- PC moves past the instruction unless it is a jump, call, return or restart (STOP past its first byte alone), and SP changes by
the instructions R26 lists alone (R25, R26; wrapping is the spec's decision D16). -/
def Obligations.WhoWritesPcAndSp : Prop :=
  ∀ i s, ∃ t, exec i s = .next t ∧ (writesSP i = false → t.sp = s.sp) ∧
    (transfersControl i = false →
      t.pc = s.pc + (match i with
        | .stop _ => 1
        | _ => BitVec.ofNat 16 (encode i).length))

/-- EI and RETI set IME, DI clears it, no other instruction writes it and none reads it; only HALT sets the halted flag, and no
instruction clears it (R27, R28, R261, R263, R264). -/
def Obligations.WhoWritesImeAndHalted : Prop :=
  ∀ i s, ∃ t, exec i s = .next t ∧ (∀ b, exec i { s with ime := b } = .next { t with ime := imeAfter i b }) ∧
    t.halted = (s.halted || (i == .halt))

/-! ### Memory -/

/-- Every address is in exactly one window, the one whose bounds hold it, and a bus read answers that window's byte: the cell of
the address, in the echo window the cell 0x2000 below (R60, R61, R64 to R71, R75). -/
def Obligations.EveryAddressHasOneWindow : Prop :=
  ∀ a : Word, (∃ w, Window.ofAddr a = some w) ∧
    (∀ w, Window.ofAddr a = some w ↔ (windowBounds w).1 ≤ a.toNat ∧ a.toNat ≤ (windowBounds w).2) ∧
    ∀ s : State, Memory.busRead s.mem a =
      some (s.dev (if Window.ofAddr a = some .echo then a.toNat - 0x2000 else a.toNat))

/-- A CPU write stores at most the one byte, with the side effects of its address, and changes no other state (R62, R65 to R75; that the
cartridge ignores writes and that SC stores the byte too are the spec's decisions D17 and D22, log entry 16). -/
def Obligations.BusWriteEffect : Prop :=
  ∀ (s : State) a v, Stored a v s (s.write a v) ∧
    s.write a v = { s with mem := (s.write a v).mem, diags := (s.write a v).diags }

/-- 0xE000 + k and 0xC000 + k are one cell for every k below 0x1E00, read and written alike; the last 0x200 bytes of work RAM have no
echo (R69). -/
def Obligations.EchoAliasesWorkRam : Prop :=
  (∀ (s : State) (k : Nat) v, k < 0x1E00 →
    s.byte (0xE000 + BitVec.ofNat 16 k) = s.byte (0xC000 + BitVec.ofNat 16 k) ∧
    (s.write (0xE000 + BitVec.ofNat 16 k) v).byte (0xC000 + BitVec.ofNat 16 k) = v ∧
    (s.write (0xC000 + BitVec.ofNat 16 k) v).byte (0xE000 + BitVec.ofNat 16 k) = v) ∧
  (∀ (s : State) (k : Nat) v b, 0x1E00 ≤ k → k < 0x2000 → b ≠ 0xC000 + BitVec.ofNat 16 k →
    (s.write (0xC000 + BitVec.ofNat 16 k) v).byte b = s.byte b)

/-- A word is two byte accesses, low byte first, each with its own effect, the second at the next address, wrapping; a push moves SP down by 2 and
stores the word there, a pop reads the word at SP and moves SP up by 2; nothing else changes (R63, R149; the wrap is the spec's
decision D16, log entry 16). -/
def Obligations.WordAccessesAndTheStack : Prop :=
  ∀ (s : State) a v, (StoredWord a v s (s.writeWord a v) ∧
      s.writeWord a v = { s with mem := (s.writeWord a v).mem, diags := (s.writeWord a v).diags }) ∧
    (∀ k, s.readWordThen a k = k (s.byte (a + 1) ++ s.byte a)) ∧
    (StoredWord (s.sp - 2) v s (s.push16 v) ∧
      s.push16 v = { s with sp := s.sp - 2, mem := (s.push16 v).mem, diags := (s.push16 v).diags }) ∧
    (∀ k, s.popThen k = k (s.byte (s.sp + 1) ++ s.byte s.sp) { s with sp := s.sp + 2 })

/-- No instruction changes the cartridge image, the scanline register, the cycle counter or any hidden state of the devices, or emits a
frame (R65, R72, R338, R268). -/
def Obligations.InstructionsLeaveRomAndDevicesAlone : Prop :=
  ∀ i s, ∃ t, exec i s = .next t ∧ (∀ a, a.toNat < 0x8000 → t.byte a = s.byte a) ∧ t.byte 0xFF44 = s.byte 0xFF44 ∧
    t.cyc = s.cyc ∧ t.divAcc = s.divAcc ∧ t.timaAcc = s.timaAcc ∧ t.mode = s.mode ∧ t.dot = s.dot ∧ t.fb = s.fb ∧
    t.frames = s.frames

/-! ### 8-bit loads -/

/-- `LD r,r'` copies the source register, and changes nothing else but PC (R130).
Opcodes and costs: R105, R106 and the default CYCLES (log entry 4). -/
def Obligations.LoadRegFromReg : Prop :=
  ∀ i op d r, (i, op, d, r) ∈ ldRegReg → ∀ s, Runs i [op] 4 s (LoadsReg d (s.r8 r) 1 s)

/-- `LD r,n`, and the loads of a register from memory at HL, BC, DE, nn, 0xFF00 + n and 0xFF00 + C, load that byte and change nothing
else but PC (R131, R132, R135, R136, R139, R141, R143).
Opcodes and costs: R105, R106 and the default CYCLES (log entry 4). -/
def Obligations.LoadRegFromImmediateOrMemory : Prop :=
  (∀ i op d, (i, op, d) ∈ ldRegImm → ∀ n s, Runs (i n) [op, n] 8 s (LoadsReg d n 2 s)) ∧
  (∀ i op d, (i, op, d) ∈ ldRegHL → ∀ s, Runs i [op] 8 s (LoadsReg d (s.byte s.hl) 1 s)) ∧
  (∀ s, Runs .ld_A_atBC [0x0A] 8 s (LoadsReg .A (s.byte s.bc) 1 s)) ∧
  (∀ s, Runs .ld_A_atDE [0x1A] 8 s (LoadsReg .A (s.byte s.de) 1 s)) ∧
  (∀ nn s, Runs (.ld_A_atnn nn) [0xFA, lo8 nn, hi8 nn] 16 s (LoadsReg .A (s.byte nn) 3 s)) ∧
  (∀ n s, Runs (.ldh_A_atn n) [0xF0, n] 12 s (LoadsReg .A (s.byte (0xFF00 + n.setWidth 16)) 2 s)) ∧
  (∀ s, Runs .ld_A_atC [0xF2] 8 s (LoadsReg .A (s.byte (0xFF00 + (s.r8 .C).setWidth 16)) 1 s))

/-- The stores of a register or an immediate to memory at HL, BC, DE, nn, 0xFF00 + n and 0xFF00 + C write that byte there through the
bus and change nothing else but PC (R133, R134, R137, R138, R140, R142, R144).
Opcodes and costs: R105, R106 and the default CYCLES (log entry 4). -/
def Obligations.StoreByteForms : Prop :=
  (∀ i op r, (i, op, r) ∈ ldHLReg → ∀ s, Runs i [op] 8 s (StoresByte s.hl (s.r8 r) 1 s)) ∧
  (∀ n s, Runs (.ld_atHL_n n) [0x36, n] 12 s (StoresByte s.hl n 2 s)) ∧
  (∀ s, Runs .ld_atBC_A [0x02] 8 s (StoresByte s.bc (s.r8 .A) 1 s)) ∧
  (∀ s, Runs .ld_atDE_A [0x12] 8 s (StoresByte s.de (s.r8 .A) 1 s)) ∧
  (∀ nn s, Runs (.ld_atnn_A nn) [0xEA, lo8 nn, hi8 nn] 16 s (StoresByte nn (s.r8 .A) 3 s)) ∧
  (∀ n s, Runs (.ldh_atn_A n) [0xE0, n] 12 s (StoresByte (0xFF00 + n.setWidth 16) (s.r8 .A) 2 s)) ∧
  (∀ s, Runs .ld_atC_A [0xE2] 8 s (StoresByte (0xFF00 + (s.r8 .C).setWidth 16) (s.r8 .A) 1 s))

/-- LDI and LDD move the byte between A and memory at the old HL and then move HL by one, wrapping; no flag changes (R145 to R148).
Opcodes and costs: R105, R106 and the default CYCLES (log entry 4). -/
def Obligations.LoadAndStepHL : Prop :=
  ∀ s : State,
    Runs .ldi_atHL_A [0x22] 8 s (fun t => Stored s.hl (s.r8 .A) s t ∧ t.hl = s.hl + 1 ∧ RegsKept [.H, .L] s t ∧
      FlagsKept s t ∧ Apart s t ∧ Falls 1 s t) ∧
    Runs .ldd_atHL_A [0x32] 8 s (fun t => Stored s.hl (s.r8 .A) s t ∧ t.hl = s.hl - 1 ∧ RegsKept [.H, .L] s t ∧
      FlagsKept s t ∧ Apart s t ∧ Falls 1 s t) ∧
    Runs .ldi_A_atHL [0x2A] 8 s (fun t => t.r8 .A = s.byte s.hl ∧ t.hl = s.hl + 1 ∧ RegsKept [.A, .H, .L] s t ∧
      FlagsKept s t ∧ MemKept s t ∧ Apart s t ∧ Falls 1 s t) ∧
    Runs .ldd_A_atHL [0x3A] 8 s (fun t => t.r8 .A = s.byte s.hl ∧ t.hl = s.hl - 1 ∧ RegsKept [.A, .H, .L] s t ∧
      FlagsKept s t ∧ MemKept s t ∧ Apart s t ∧ Falls 1 s t)

/-! ### 16-bit loads and the stack -/

/-- `LD rr,nn` and `LD SP,HL` load the pair and change nothing else but PC (R150, R152).
Opcodes and costs: R105, R106 and the default CYCLES (log entry 4). -/
def Obligations.LoadPairForms : Prop :=
  (∀ i op p, (i, op, p) ∈ ldPairImm → ∀ nn s, Runs (i nn) [op, lo8 nn, hi8 nn] 12 s (LoadsPair p nn 3 s)) ∧
  (∀ s, Runs .ld_SP_HL [0xF9] 8 s (LoadsPair .SP s.hl 1 s))

/-- `LD (nn),SP` stores SP at nn, low byte first; `PUSH rr` moves SP down by 2 and stores the pair there; nothing else changes but PC
(R151, R153).
Opcodes and costs: R105, R106 and the default CYCLES (log entry 4). -/
def Obligations.StoreWordForms : Prop :=
  (∀ nn s, Runs (.ld_atnn_SP nn) [0x08, lo8 nn, hi8 nn] 20 s (fun t =>
    StoredWord nn s.sp s t ∧ RegsKept [] s t ∧ FlagsKept s t ∧ Apart s t ∧ Falls 3 s t)) ∧
  (∀ i op p, (i, op, p) ∈ pushPairs → ∀ s, Runs i [op] 16 s (fun t =>
    StoredWord (s.sp - 2) (s.r16 p) s t ∧ t.sp = s.sp - 2 ∧ RegsKept [.SPh, .SPl] s t ∧ FlagsKept s t ∧ Apart s t ∧
      Falls 1 s t))

/-- `POP rr` loads the word at SP and moves SP up by 2; `POP AF` takes A and the four flags from it and drops the low four bits (R154, R155).
Opcodes and costs: R105, R106 and the default CYCLES (log entry 4). -/
def Obligations.PopForms : Prop :=
  (∀ i op p, (i, op, p) ∈ popPairs → ∀ s, Runs i [op] 12 s (fun t =>
    t.r16 p = s.byte (s.sp + 1) ++ s.byte s.sp ∧ t.sp = s.sp + 2 ∧ RegsKept (halves p ++ [.SPh, .SPl]) s t ∧
      FlagsKept s t ∧ MemKept s t ∧ Apart s t ∧ Falls 1 s t)) ∧
  (∀ s : State, Runs .pop_AF [0xF1] 12 s (fun t =>
    t.r8 .A = s.byte (s.sp + 1) ∧ t.r8 .F = s.byte s.sp &&& 0xF0 ∧
      FlagsAre t ((s.byte s.sp).getLsbD 7) ((s.byte s.sp).getLsbD 6) ((s.byte s.sp).getLsbD 5) ((s.byte s.sp).getLsbD 4) ∧
      t.sp = s.sp + 2 ∧ RegsKept [.A, .SPh, .SPl] s t ∧ MemKept s t ∧ Apart s t ∧ Falls 1 s t))

/-! ### 8-bit arithmetic -/

/-- ADD and ADC add the operand, ADC the Carry flag too, to A; Z, H, C by the sum, N clear (R160, R163 to R168; that the carry takes part in
H and C is the spec's decision D21).
Opcodes and costs: R105, R106 and the default CYCLES (log entry 4). -/
def Obligations.AddForms : Prop :=
  (∀ i op r, (i, op, r) ∈ addReg → ∀ s, Runs i [op] 4 s (AddsToA (s.r8 r) false 1 s)) ∧
  (∀ s, Runs .add_A_atHL [0x86] 8 s (AddsToA (s.byte s.hl) false 1 s)) ∧
  (∀ n s, Runs (.add_A_n n) [0xC6, n] 8 s (AddsToA n false 2 s)) ∧
  (∀ i op r, (i, op, r) ∈ adcReg → ∀ s, Runs i [op] 4 s (AddsToA (s.r8 r) (s.flag .C) 1 s)) ∧
  (∀ s, Runs .adc_A_atHL [0x8E] 8 s (AddsToA (s.byte s.hl) (s.flag .C) 1 s)) ∧
  (∀ n s, Runs (.adc_A_n n) [0xCE, n] 8 s (AddsToA n (s.flag .C) 2 s))

/-- SUB and SBC take the operand, SBC the Carry flag too, from A; H and C are borrows, N set (R161, R169 to R174).
Opcodes and costs: R105, R106 and the default CYCLES (log entry 4). -/
def Obligations.SubtractForms : Prop :=
  (∀ i op r, (i, op, r) ∈ subReg → ∀ s, Runs i [op] 4 s (SubsFromA (s.r8 r) false 1 s)) ∧
  (∀ s, Runs .sub_atHL [0x96] 8 s (SubsFromA (s.byte s.hl) false 1 s)) ∧
  (∀ n s, Runs (.sub_n n) [0xD6, n] 8 s (SubsFromA n false 2 s)) ∧
  (∀ i op r, (i, op, r) ∈ sbcReg → ∀ s, Runs i [op] 4 s (SubsFromA (s.r8 r) (s.flag .C) 1 s)) ∧
  (∀ s, Runs .sbc_A_atHL [0x9E] 8 s (SubsFromA (s.byte s.hl) (s.flag .C) 1 s)) ∧
  (∀ n s, Runs (.sbc_A_n n) [0xDE, n] 8 s (SubsFromA n (s.flag .C) 2 s))

/-- CP sets the flags of the subtraction and changes nothing else but PC, A included (R184 to R186).
Opcodes and costs: R105, R106 and the default CYCLES (log entry 4). -/
def Obligations.CompareForms : Prop :=
  (∀ i op r, (i, op, r) ∈ cpReg → ∀ s, Runs i [op] 4 s (ComparesA (s.r8 r) 1 s)) ∧
  (∀ s, Runs .cp_atHL [0xBE] 8 s (ComparesA (s.byte s.hl) 1 s)) ∧
  (∀ n s, Runs (.cp_n n) [0xFE, n] 8 s (ComparesA n 2 s))

/-- AND, XOR and OR combine the operand into A; Z says the result is 0, N and C are clear, H is set by AND alone (R162, R175 to R183; C and H
are the spec's decision D21).
Opcodes and costs: R105, R106 and the default CYCLES (log entry 4). -/
def Obligations.LogicForms : Prop :=
  (∀ i op r, (i, op, r) ∈ andReg → ∀ s, Runs i [op] 4 s (LogicToA (s.r8 .A &&& s.r8 r) True 1 s)) ∧
  (∀ s, Runs .and_atHL [0xA6] 8 s (LogicToA (s.r8 .A &&& s.byte s.hl) True 1 s)) ∧
  (∀ n s, Runs (.and_n n) [0xE6, n] 8 s (LogicToA (s.r8 .A &&& n) True 2 s)) ∧
  (∀ i op r, (i, op, r) ∈ xorReg → ∀ s, Runs i [op] 4 s (LogicToA (s.r8 .A ^^^ s.r8 r) False 1 s)) ∧
  (∀ s, Runs .xor_atHL [0xAE] 8 s (LogicToA (s.r8 .A ^^^ s.byte s.hl) False 1 s)) ∧
  (∀ n s, Runs (.xor_n n) [0xEE, n] 8 s (LogicToA (s.r8 .A ^^^ n) False 2 s)) ∧
  (∀ i op r, (i, op, r) ∈ orReg → ∀ s, Runs i [op] 4 s (LogicToA (s.r8 .A ||| s.r8 r) False 1 s)) ∧
  (∀ s, Runs .or_atHL [0xB6] 8 s (LogicToA (s.r8 .A ||| s.byte s.hl) False 1 s)) ∧
  (∀ n s, Runs (.or_n n) [0xF6, n] 8 s (LogicToA (s.r8 .A ||| n) False 2 s))

/-- INC and DEC of a register or of the byte at HL; the flags come from the value read, whatever memory keeps, and Carry is unchanged (R187 to
R190).
Opcodes and costs: R105, R106 and the default CYCLES (log entry 4). -/
def Obligations.IncrementAndDecrementForms : Prop :=
  (∀ i op r, (i, op, r) ∈ incReg → ∀ s, Runs i [op] 4 s (fun t =>
    RegAndFlags r (((s.r8 r).toNat + 1) % 256) (s.r8 r = 0xFF) False ((s.r8 r).toNat % 16 = 15) (s.flag .C = true) 1 s t)) ∧
  (∀ s : State, Runs .inc_atHL [0x34] 12 s (fun t =>
    CellAndFlags s.hl (((s.byte s.hl).toNat + 1) % 256) (s.byte s.hl = 0xFF) False ((s.byte s.hl).toNat % 16 = 15)
      (s.flag .C = true) 1 s t)) ∧
  (∀ i op r, (i, op, r) ∈ decReg → ∀ s, Runs i [op] 4 s (fun t =>
    RegAndFlags r (((s.r8 r).toNat + 255) % 256) (s.r8 r = 0x01) True ((s.r8 r).toNat % 16 = 0) (s.flag .C = true) 1 s t)) ∧
  (∀ s : State, Runs .dec_atHL [0x35] 12 s (fun t =>
    CellAndFlags s.hl (((s.byte s.hl).toNat + 255) % 256) (s.byte s.hl = 0x01) True ((s.byte s.hl).toNat % 16 = 0)
      (s.flag .C = true) 1 s t))

/-- DAA adds its adjustment to A after an addition and takes it off after a subtraction; both digit tests look at the old A (R191).
Opcodes and costs: R105, R106 and the default CYCLES (log entry 4). -/
def Obligations.DecimalAdjust : Prop :=
  ∀ s : State,
    (s.flag .N = false → Runs .daa [0x27] 4 s (fun t =>
      RegAndFlags .A
        (((s.r8 .A).toNat + (if s.flag .H = true ∨ (s.r8 .A).toNat % 16 > 9 then 6 else 0)
          + (if s.flag .C = true ∨ (s.r8 .A).toNat > 0x99 then 96 else 0)) % 256)
        (t.r8 .A = 0) False False (s.flag .C = true ∨ (s.r8 .A).toNat > 0x99) 1 s t)) ∧
    (s.flag .N = true → Runs .daa [0x27] 4 s (fun t =>
      RegAndFlags .A
        (((s.r8 .A).toNat + 256 - (if s.flag .H = true then 6 else 0) - (if s.flag .C = true then 96 else 0)) % 256)
        (t.r8 .A = 0) True False (s.flag .C = true) 1 s t))

/-- Adding or subtracting two packed decimal numbers and then DAA gives the packed decimal sum or difference modulo 100, with Carry as the
decimal carry or borrow: what DAA is for, worked out from its rule (R191, R160, R161). -/
def Obligations.DecimalArithmeticIsRight : Prop :=
  ∀ (s : State) (x y : Nat), x < 100 → y < 100 → (s.r8 .A).toNat = x / 10 * 16 + x % 10 →
    (∃ t u, exec (.add_A_n (BitVec.ofNat 8 (y / 10 * 16 + y % 10))) s = .next t ∧ exec .daa t = .next u ∧
      (u.r8 .A).toNat = (x + y) % 100 / 10 * 16 + (x + y) % 10 ∧ (u.flag .C = true ↔ x + y ≥ 100)) ∧
    (∃ t u, exec (.sub_n (BitVec.ofNat 8 (y / 10 * 16 + y % 10))) s = .next t ∧ exec .daa t = .next u ∧
      (u.r8 .A).toNat = (x + 100 - y) % 100 / 10 * 16 + (x + 100 - y) % 10 ∧ (u.flag .C = true ↔ x < y))

/-- CPL complements A and sets N and H; SCF sets Carry and CCF complements it, both clearing N and H; Z and what else there is stay (R192 to
R194).
Opcodes and costs: R105, R106 and the default CYCLES (log entry 4). -/
def Obligations.AccumulatorAndCarryAdjustments : Prop :=
  ∀ s : State,
    Runs .cpl [0x2F] 4 s (fun t =>
      RegAndFlags .A (255 - (s.r8 .A).toNat) (s.flag .Z = true) True True (s.flag .C = true) 1 s t) ∧
    Runs .scf [0x37] 4 s (fun t =>
      FlagsAre t (s.flag .Z = true) False False True ∧ RegsKept [] s t ∧ MemKept s t ∧ Apart s t ∧ Falls 1 s t) ∧
    Runs .ccf [0x3F] 4 s (fun t =>
      FlagsAre t (s.flag .Z = true) False False (s.flag .C = false) ∧ RegsKept [] s t ∧ MemKept s t ∧ Apart s t ∧ Falls 1 s t)

/-! ### 16-bit arithmetic -/

/-- `ADD HL,rr` adds the pair to HL; H is the carry out of bit 11, C the carry out of bit 15, N clear, Z kept (R201).
Opcodes and costs: R105, R106 and the default CYCLES (log entry 4). -/
def Obligations.AddPairToHL : Prop :=
  ∀ i op p, (i, op, p) ∈ addHLPair → ∀ s, Runs i [op] 8 s (fun t =>
    t.hl.toNat = (s.hl.toNat + (s.r16 p).toNat) % 65536 ∧
      FlagsAre t (s.flag .Z = true) False (s.hl.toNat % 4096 + (s.r16 p).toNat % 4096 > 4095)
        (s.hl.toNat + (s.r16 p).toNat > 65535) ∧
      RegsKept [.H, .L] s t ∧ MemKept s t ∧ Apart s t ∧ Falls 1 s t)

/-- `INC rr` and `DEC rr` move the pair by one, wrapping, with no flag changed (R202, R203).
Opcodes and costs: R105, R106 and the default CYCLES (log entry 4). -/
def Obligations.PairIncrementAndDecrement : Prop :=
  (∀ i op p, (i, op, p) ∈ incPair → ∀ s, Runs i [op] 8 s (fun t =>
    LoadsPair p (BitVec.ofNat 16 ((s.r16 p).toNat + 1)) 1 s t)) ∧
  (∀ i op p, (i, op, p) ∈ decPair → ∀ s, Runs i [op] 8 s (fun t =>
    LoadsPair p (BitVec.ofNat 16 ((s.r16 p).toNat + 65535)) 1 s t))

/-- `ADD SP,e` and `LD HL,SP+e` add the signed byte to SP; H and C come from the unsigned low-byte addition, Z and N are clear (R200, R204, R205;
that Z and N are cleared is the spec's decision D21).
Opcodes and costs: R105, R106 and the default CYCLES (log entry 4). -/
def Obligations.StackPointerOffsetForms : Prop :=
  ∀ (e : Byte) (s : State),
    Runs (.add_SP_e e) [0xE8, e] 16 s (fun t =>
      (t.sp.toNat : Int) = (s.sp.toNat + e.toInt) % 65536 ∧
        FlagsAre t False False (s.sp.toNat % 16 + e.toNat % 16 > 15) (s.sp.toNat % 256 + e.toNat > 255) ∧
        RegsKept [.SPh, .SPl] s t ∧ MemKept s t ∧ Apart s t ∧ Falls 2 s t) ∧
    Runs (.ld_HL_SPe e) [0xF8, e] 12 s (fun t =>
      (t.hl.toNat : Int) = (s.sp.toNat + e.toInt) % 65536 ∧
        FlagsAre t False False (s.sp.toNat % 16 + e.toNat % 16 > 15) (s.sp.toNat % 256 + e.toNat > 255) ∧
        RegsKept [.H, .L] s t ∧ MemKept s t ∧ Apart s t ∧ Falls 2 s t)

/-! ### Control transfers -/

/-- JP and JR go to their target, the conditional ones when the flag has the named value, else past the instruction; nothing but PC
changes (R210 to R215).
Opcodes and costs: R105, R106 and the default CYCLES (log entry 4). -/
def Obligations.JumpForms : Prop :=
  (∀ nn s, RunsTo (.jp_nn nn) [0xC3, lo8 nn, hi8 nn] 16 s { s with pc := nn }) ∧
  (∀ s, RunsTo .jp_HL [0xE9] 4 s { s with pc := s.hl }) ∧
  (∀ e s, RunsTo (.jr_e e) [0x18, e] 12 s { s with pc := BitVec.ofInt 16 (s.pc.toNat + 2 + e.toInt) }) ∧
  (∀ i op f want, (i, op, f, want) ∈ jpIfForms → ∀ nn s,
    (s.flag f = want → RunsTo (i nn) [op, lo8 nn, hi8 nn] 16 s { s with pc := nn }) ∧
    (s.flag f ≠ want → RunsTo (i nn) [op, lo8 nn, hi8 nn] 12 s { s with pc := s.pc + 3 })) ∧
  (∀ i op f want, (i, op, f, want) ∈ jrIfForms → ∀ e s,
    (s.flag f = want → RunsTo (i e) [op, e] 12 s { s with pc := BitVec.ofInt 16 (s.pc.toNat + 2 + e.toInt) }) ∧
    (s.flag f ≠ want → RunsTo (i e) [op, e] 8 s { s with pc := s.pc + 2 }))

/-- CALL, taken CALL cc and RST push the address after the instruction and go to their target; CALL cc not taken only moves PC past itself
(R216, R217, R221).
Opcodes and costs: R105, R106 and the default CYCLES (log entry 4). -/
def Obligations.CallForms : Prop :=
  (∀ nn s, Runs (.call_nn nn) [0xCD, lo8 nn, hi8 nn] 24 s (fun t =>
    StoredWord (s.sp - 2) (s.pc + 3) s t ∧ t.sp = s.sp - 2 ∧ t.pc = nn ∧ RegsKept [.SPh, .SPl] s t ∧ FlagsKept s t ∧ Apart s t)) ∧
  (∀ i op f want, (i, op, f, want) ∈ callIfForms → ∀ nn s,
    (s.flag f = want → Runs (i nn) [op, lo8 nn, hi8 nn] 24 s (fun t =>
      StoredWord (s.sp - 2) (s.pc + 3) s t ∧ t.sp = s.sp - 2 ∧ t.pc = nn ∧ RegsKept [.SPh, .SPl] s t ∧ FlagsKept s t ∧
        Apart s t)) ∧
    (s.flag f ≠ want → RunsTo (i nn) [op, lo8 nn, hi8 nn] 12 s { s with pc := s.pc + 3 })) ∧
  (∀ i op target, (i, op, target) ∈ rstForms → ∀ s, Runs i [op] 16 s (fun t =>
    StoredWord (s.sp - 2) (s.pc + 1) s t ∧ t.sp = s.sp - 2 ∧ t.pc = target ∧ RegsKept [.SPh, .SPl] s t ∧ FlagsKept s t ∧
      Apart s t))

/-- RET, taken RET cc and RETI pop PC, RETI also sets IME; RET cc not taken only moves PC past itself; nothing else changes (R218 to R220).
Opcodes and costs: R105, R106 and the default CYCLES (log entry 4). -/
def Obligations.ReturnForms : Prop :=
  (∀ s, RunsTo .ret [0xC9] 16 s { s with pc := s.byte (s.sp + 1) ++ s.byte s.sp, sp := s.sp + 2 }) ∧
  (∀ i op f want, (i, op, f, want) ∈ retIfForms → ∀ s,
    (s.flag f = want → RunsTo i [op] 20 s { s with pc := s.byte (s.sp + 1) ++ s.byte s.sp, sp := s.sp + 2 }) ∧
    (s.flag f ≠ want → RunsTo i [op] 8 s { s with pc := s.pc + 1 })) ∧
  (∀ s, RunsTo .reti [0xD9] 16 s { s with pc := s.byte (s.sp + 1) ++ s.byte s.sp, sp := s.sp + 2, ime := true })

/-! ### Rotates, shifts and bits -/

/-- RLCA, RLA, RRCA and RRA rotate A; Carry is the bit moved out, the other flags are always clear (R232 to R235).
Opcodes and costs: R105, R106 and the default CYCLES (log entry 4). -/
def Obligations.AccumulatorRotates : Prop :=
  ∀ i op f, (i, op, f) ∈ rotateAForms → ∀ s, Runs i [op] 4 s (fun t =>
    RegAndFlags .A (shiftValue f (s.r8 .A).toNat (s.flag .C)) False False False (shiftsOut f (s.r8 .A).toNat) 1 s t)

/-- The eight shift functions on a register and on the byte at HL: the result stored back, Z by the result, Carry the bit moved out, N and H
clear; on memory the flags come from the byte read (R230, R231, R236 to R251; that N and H are cleared is the spec's decision D21).
Opcodes and costs: R105, R106 and the default CYCLES (log entry 4). -/
def Obligations.ShiftForms : Prop :=
  (∀ i op2 f r, (i, op2, f, r) ∈ shiftReg → ∀ s, Runs i [0xCB, op2] 8 s (fun t =>
    RegAndFlags r (shiftValue f (s.r8 r).toNat (s.flag .C)) (shiftValue f (s.r8 r).toNat (s.flag .C) = 0) False False
      (shiftsOut f (s.r8 r).toNat) 2 s t)) ∧
  (∀ i op2 f, (i, op2, f) ∈ shiftHL → ∀ s, Runs i [0xCB, op2] 16 s (fun t =>
    CellAndFlags s.hl (shiftValue f (s.byte s.hl).toNat (s.flag .C)) (shiftValue f (s.byte s.hl).toNat (s.flag .C) = 0) False False
      (shiftsOut f (s.byte s.hl).toNat) 2 s t))

/-- BIT sets Z to the complement of the bit, clears N, sets H, keeps Carry and writes nothing else (R252, R253).
Opcodes and costs: R105, R106 and the default CYCLES (log entry 4). -/
def Obligations.BitTestForms : Prop :=
  (∀ i op2 r, (i, op2, r) ∈ bitReg → ∀ b s, Runs (i b) [0xCB, BitVec.ofNat 8 (op2 + 8 * b.toNat)] 8 s (fun t =>
    FlagsAre t ((s.r8 r).getLsbD b.toNat = false) False True (s.flag .C = true) ∧ RegsKept [] s t ∧ MemKept s t ∧ Apart s t ∧
      Falls 2 s t)) ∧
  (∀ b (s : State), Runs (.bit_b_atHL b) [0xCB, BitVec.ofNat 8 (0x46 + 8 * b.toNat)] 12 s (fun t =>
    FlagsAre t ((s.byte s.hl).getLsbD b.toNat = false) False True (s.flag .C = true) ∧ RegsKept [] s t ∧ MemKept s t ∧ Apart s t ∧
      Falls 2 s t))

/-- RES clears and SET sets the one bit of a register or of the byte at HL; no flag changes (R254 to R257).
Opcodes and costs: R105, R106 and the default CYCLES (log entry 4). -/
def Obligations.BitResetAndSetForms : Prop :=
  (∀ i op2 r, (i, op2, r) ∈ resReg → ∀ b s, Runs (i b) [0xCB, BitVec.ofNat 8 (op2 + 8 * b.toNat)] 8 s
    (LoadsReg r (withBit (s.r8 r) b false) 2 s)) ∧
  (∀ b s, Runs (.res_b_atHL b) [0xCB, BitVec.ofNat 8 (0x86 + 8 * b.toNat)] 16 s
    (StoresByte s.hl (withBit (s.byte s.hl) b false) 2 s)) ∧
  (∀ i op2 r, (i, op2, r) ∈ setReg → ∀ b s, Runs (i b) [0xCB, BitVec.ofNat 8 (op2 + 8 * b.toNat)] 8 s
    (LoadsReg r (withBit (s.r8 r) b true) 2 s)) ∧
  (∀ b s, Runs (.set_b_atHL b) [0xCB, BitVec.ofNat 8 (0xC6 + 8 * b.toNat)] 16 s
    (StoresByte s.hl (withBit (s.byte s.hl) b true) 2 s))

/-! ### System instructions -/

/-- NOP changes nothing but PC, HALT sets the halted flag, DI clears IME and EI sets it, both at once (R260, R261, R263, R264; at once is
the spec's decision D6, log entry 16).
Opcodes and costs: R105, R106 and the default CYCLES (log entry 4). -/
def Obligations.SystemInstructions : Prop :=
  ∀ s : State, RunsTo .nop [0x00] 4 s { s with pc := s.pc + 1 } ∧
    RunsTo .halt [0x76] 4 s { s with pc := s.pc + 1, halted := true } ∧
    RunsTo .di [0xF3] 4 s { s with pc := s.pc + 1, ime := false } ∧
    RunsTo .ei [0xFB] 4 s { s with pc := s.pc + 1, ime := true }

/-- 0xCB runs the instruction the extended map gives for the byte after it (R265), and the bare prefix term has the same effect and cost. That
term is the model's choice: R265 says the prefix is no instruction by itself, and the table's row for it has a constructor, ill-formed
by default (log entry 8). -/
def Obligations.PrefixRunsExtendedInstruction : Prop :=
  ∀ op2 rest, ∃ i, decode (0xCB :: op2 :: rest) = .ok (i, rest) ∧
    ∀ s, ∃ t, exec i s = .next t ∧ exec (.prefixCB op2) s = .next t ∧ (cost (.prefixCB op2)).cycles s = (cost i).cycles s

/-- An illegal opcode latches UnimplementedOpcode with the byte and its address, moves PC past it and changes nothing else; the step that
fetches it does exactly that and no more (R266, R301). -/
def Obligations.IllegalOpcodesFault : Prop :=
  ∀ i op, (i, op) ∈ illegalForms → ∀ s : State, s.fault = none →
    RunsTo i [op] 0 s { s with pc := s.pc + 1, fault := some (.unimplementedOpcode op s.pc) } ∧
    (s.halted = false → s.byte s.pc = op →
      step s = .next { s with pc := s.pc + 1, fault := some (.unimplementedOpcode op s.pc) })

/-- STOP is left out of IMPLEMENTED: it faults as an illegal opcode does, its second byte never fetched, PC one past the opcode (R262; the
spec's decision D14, log entry 17). -/
def Obligations.StopFaults : Prop :=
  ∀ n (s : State), s.fault = none →
    RunsTo (.stop n) [0x10, n] 0 s { s with pc := s.pc + 1, fault := some (.unimplementedOpcode 0x10 s.pc) } ∧
    (s.halted = false → s.byte s.pc = 0x10 →
      step s = .next { s with pc := s.pc + 1, fault := some (.unimplementedOpcode 0x10 s.pc) })

/-! ### Interrupts -/

/-- With no source both enabled and requested a dispatch changes nothing, whatever IME is; with one, and IME clear, it ends the halt and
does nothing else (R319). -/
def Obligations.DispatchWithoutService : Prop :=
  ∀ s : State, ((∀ i, ¬Pending s i) → interruptDispatch s = s) ∧
    (∀ i, Pending s i → s.ime = false → interruptDispatch s = { s with halted := false })

/-- With IME set the lowest-numbered pending source is taken: the halt ends, PC is pushed, PC goes to 0x0040 + 8 i, IME is cleared and then bit
i of IF as it is after the push; nothing else changes, not even the cycle counter (R313 to R315; one source a call is the spec's decision
D29, the cost of 0 D7, log entries 13 and 16). -/
def Obligations.DispatchTakesFirstSource : Prop :=
  ∀ (s : State) i, Pending s i → (∀ j, j < i → ¬Pending s j) → s.ime = true →
    (interruptDispatch s).pc = 0x0040 + 8 * BitVec.ofNat 16 i ∧ (interruptDispatch s).sp = s.sp - 2 ∧
    RegsKept [.SPh, .SPl] s (interruptDispatch s) ∧ FlagsKept s (interruptDispatch s) ∧
    (∀ b, b ≠ 0xFF0F → (interruptDispatch s).byte b = (s.push16 s.pc).byte b) ∧
    (∀ k, k < 8 → ((interruptDispatch s).byte 0xFF0F).getLsbD k = (k != i && ((s.push16 s.pc).byte 0xFF0F).getLsbD k)) ∧
    (interruptDispatch s).diags = (s.push16 s.pc).diags ∧
    Apart { s with ime := false, halted := false } (interruptDispatch s)

/-- RETI right after a dispatch takes PC and SP back to what they were, sets IME, and no register or flag has changed, wherever the stack is, as long
as neither byte pushed falls to the cartridge, LY or IF, which do not keep what is stored (R315, R316, R220; R65, R72, R73). -/
def Obligations.RetiUndoesDispatch : Prop :=
  ∀ (s : State) i, Pending s i → s.ime = true →
    (∀ a, a = s.sp - 2 ∨ a = s.sp - 1 → 0x8000 ≤ a.toNat ∧ a ≠ 0xFF44 ∧ a ≠ 0xFF0F) →
    ∃ t, exec .reti (interruptDispatch s) = .next t ∧ t.pc = s.pc ∧ t.sp = s.sp ∧ t.ime = true ∧ RegsKept [] s t ∧ FlagsKept s t

/-! ### The timer -/

/-- DIV goes up by one for every 256 cycles accumulated, wrapping, and the remainder stays in the accumulator; no other byte but TIMA and IF, and
no state but the two accumulators, changes (R322; the remainder is the spec's decision D9, log entry 16). -/
def Obligations.DividerCounts : Prop :=
  ∀ (s : State) c,
    (timerStep c s).divAcc = (s.divAcc + c) % 256 ∧
    ((timerStep c s).byte 0xFF04).toNat = ((s.byte 0xFF04).toNat + (s.divAcc + c) / 256) % 256 ∧
    (∀ a, a ≠ 0xFF04 → a ≠ 0xFF05 → a ≠ 0xFF0F → (timerStep c s).byte a = s.byte a) ∧
    timerStep c s =
      { s with divAcc := (timerStep c s).divAcc, timaAcc := (timerStep c s).timaAcc, mem := (timerStep c s).mem }

/-- While TAC bit 2 is set, the counter advances once each time the accumulated cycles exceed the threshold; past 255 it reloads from TMA and the
Timer request is set; while bit 2 is clear neither it, nor its accumulator, nor IF changes (R322; strictly exceeding is the spec's
decision D8, log entry 16). -/
def Obligations.CounterCounts : Prop :=
  ∀ (s : State) c,
    ((s.byte 0xFF07).getLsbD 2 = false →
      (timerStep c s).timaAcc = s.timaAcc ∧ (timerStep c s).byte 0xFF05 = s.byte 0xFF05 ∧
      (timerStep c s).byte 0xFF0F = s.byte 0xFF0F) ∧
    (∀ n, (s.byte 0xFF07).getLsbD 2 = true → n = (s.timaAcc + c - 1) / threshold (s.byte 0xFF07) →
      (timerStep c s).timaAcc + n * threshold (s.byte 0xFF07) = s.timaAcc + c ∧
      (timerStep c s).byte 0xFF05 = (timaNext (s.byte 0xFF06))^[n] (s.byte 0xFF05) ∧
      ((∃ k, k < n ∧ (timaNext (s.byte 0xFF06))^[k] (s.byte 0xFF05) = 0xFF) →
        (timerStep c s).byte 0xFF0F = s.byte 0xFF0F ||| 0x04) ∧
      ((∀ k, k < n → (timaNext (s.byte 0xFF06))^[k] (s.byte 0xFF05) ≠ 0xFF) →
        (timerStep c s).byte 0xFF0F = s.byte 0xFF0F))

/-- The order of the two devices in a step is not observable: over the same cycles they commute, in every state whose memory is in
canonical form (R412, R6). -/
def Obligations.TimerAndGraphicsCommute : Prop :=
  ∀ s c, Memory.wf s.mem → gfxStep c (timerStep c s) = timerStep c (gfxStep c s)

/-! ### The graphics timing unit -/

/-- Inside a mode only the dot counter moves; at the end of OAM-scan comes Pixel-Transfer, and at the end of that the line is rendered and
HBlank begins; the remainder carries over (R331, R332; carrying it is the spec's decision D10, log entry 16). -/
def Obligations.ModesOfAVisibleLine : Prop :=
  ∀ (s : State) c,
    (s.dot + c < s.mode.dur → gfxStep c s = { s with dot := s.dot + c }) ∧
    (∀ r, s.mode = .oamScan → s.dot + c = 80 + r → r < 172 → gfxStep c s = { s with mode := .pixelTransfer, dot := r }) ∧
    (∀ r, s.mode = .pixelTransfer → s.dot + c = 172 + r → r < 204 →
      gfxStep c s = { renderLine s with mode := .hBlank, dot := r })

/-- At the end of HBlank LY goes up by one; when it becomes 144 the VBlank request is set, the framebuffer is delivered and then every pixel of it is
FB_BLANK, and VBlank begins, else OAM-scan of the next line. At the end of a VBlank line LY goes up by one, and at 154 it wraps to 0 and
OAM-scan begins; the request is not set again and nothing is delivered. No other state changes (R333, R334, R337; the dot remainder
and the blank framebuffer are the spec's decisions D10 and D26, log entry 16). -/
def Obligations.EndsOfLines : Prop :=
  (∀ (s : State) c r, s.mode = .hBlank → (s.byte 0xFF44).toNat ≤ 143 → s.dot + c = 204 + r → r < 80 →
    (gfxStep c s).byte 0xFF44 = s.byte 0xFF44 + 1 ∧
    (∀ a, a ≠ 0xFF44 → a ≠ 0xFF0F → (gfxStep c s).byte a = s.byte a) ∧
    ((s.byte 0xFF44).toNat = 143 → (gfxStep c s).byte 0xFF0F = s.byte 0xFF0F ||| 0x01 ∧
      (∀ y x, (gfxStep c s).fb.pixel y x = Config.fbBlank) ∧
      gfxStep c s =
        { s with mem := (gfxStep c s).mem, mode := .vBlank, dot := r, fb := (gfxStep c s).fb, frames := s.frames ++ [s.fb] }) ∧
    ((s.byte 0xFF44).toNat ≠ 143 → (gfxStep c s).byte 0xFF0F = s.byte 0xFF0F ∧
      gfxStep c s = { s with mem := (gfxStep c s).mem, mode := .oamScan, dot := r })) ∧
  (∀ (s : State) c r, s.mode = .vBlank → 144 ≤ (s.byte 0xFF44).toNat → (s.byte 0xFF44).toNat ≤ 153 → s.dot + c = 456 + r →
    r < 80 →
    (∀ a, a ≠ 0xFF44 → (gfxStep c s).byte a = s.byte a) ∧
    ((s.byte 0xFF44).toNat = 153 → (gfxStep c s).byte 0xFF44 = 0 ∧
      gfxStep c s = { s with mem := (gfxStep c s).mem, mode := .oamScan, dot := r }) ∧
    ((s.byte 0xFF44).toNat ≠ 153 → (gfxStep c s).byte 0xFF44 = s.byte 0xFF44 + 1 ∧
      gfxStep c s = { s with mem := (gfxStep c s).mem, mode := .vBlank, dot := r }))

/-- After any number of dots the graphics unit is that many dots further in its frame of 154 lines of 456 dots: LY, mode and dot counter
are those of the position modulo 70224 (R331 to R334, R338). -/
def Obligations.FramePositionAdvances : Prop :=
  ∀ s c, Machine.Inv s →
    framePos (gfxStep c s) = (framePos s + c) % 70224 ∧
    ((gfxStep c s).byte 0xFF44).toNat = (framePos s + c) % 70224 / 456 ∧
    (gfxStep c s).mode = modeAt ((framePos s + c) % 70224)

/-- One frame is delivered, and the VBlank request set, exactly when dot 65664 of a frame is passed, once for every 70224 dots; no other byte
but LY changes (R333, R337, R338). -/
def Obligations.OneFrameForEvery70224Dots : Prop :=
  ∀ s c n, Machine.Inv s → n = (framePos s + c + 4560) / 70224 - (framePos s + 4560) / 70224 →
    (gfxStep c s).frames.length = s.frames.length + n ∧
    (n = 0 → (gfxStep c s).byte 0xFF0F = s.byte 0xFF0F) ∧ (0 < n → (gfxStep c s).byte 0xFF0F = s.byte 0xFF0F ||| 0x01) ∧
    ∀ a, a ≠ 0xFF44 → a ≠ 0xFF0F → (gfxStep c s).byte a = s.byte a

/-- With the background enabled, rendering gives each pixel of line LY whose background column x + SCX is below 256 the colour that column
has in the background row (LY + SCY) mod 256; every other pixel, and all other state, stays; disabled, nothing changes (R335, R336; the bit
positions are the spec's decision D11, the colours D13, log entries 5 and 16). -/
def Obligations.RenderedLineIsTheBackgroundRow : Prop :=
  ∀ (s : State) y x, x < 160 →
    (renderLine s).fb.pixel y x =
      (if (s.byte 0xFF40).getLsbD 0 = true ∧ y = (s.byte 0xFF44).toNat ∧ x + (s.byte 0xFF43).toNat < 256 then
        bgColour s (x + (s.byte 0xFF43).toNat)
      else s.fb.pixel y x) ∧
    renderLine s = { s with fb := (renderLine s).fb }
end

