-- ==== Sys2Proof/Laws/Exec.lean ====
section
/-! SUPPORT. What `exec` answers for each instruction: the shared operation that is its meaning. -/

namespace Sys2Proof.Machine

@[simp] theorem exec_nop (s : State) : exec (.nop) s = .next (s.advance 1) := rfl

@[simp] theorem exec_ld_BC_nn (nn : Word) (s : State) : exec (.ld_BC_nn nn) s = .next (loadPair .BC nn s) := rfl

@[simp] theorem exec_ld_atBC_A (s : State) : exec (.ld_atBC_A) s = .next (storeByte 1 s.bc (s.r8 .A) s) := rfl

@[simp] theorem exec_inc_BC (s : State) : exec (.inc_BC) s = .next (addPair .BC 1 s) := rfl

@[simp] theorem exec_inc_B (s : State) : exec (.inc_B) s = .next (modify 1 (.reg .B) inc8 s) := rfl

@[simp] theorem exec_dec_B (s : State) : exec (.dec_B) s = .next (modify 1 (.reg .B) dec8 s) := rfl

@[simp] theorem exec_ld_B_n (n : Byte) (s : State) : exec (.ld_B_n n) s = .next (loadReg .B 2 (.imm n) s) := rfl

@[simp] theorem exec_rlca (s : State) : exec (.rlca) s = .next (rotateA .rlc s) := rfl

@[simp] theorem exec_ld_atnn_SP (nn : Word) (s : State) : exec (.ld_atnn_SP nn) s = .next (storeSP nn s) := rfl

@[simp] theorem exec_add_HL_BC (s : State) : exec (.add_HL_BC) s = .next (addHL .BC s) := rfl

@[simp] theorem exec_ld_A_atBC (s : State) : exec (.ld_A_atBC) s = .next (loadReg .A 1 (.mem s.bc) s) := rfl

@[simp] theorem exec_dec_BC (s : State) : exec (.dec_BC) s = .next (addPair .BC (-1) s) := rfl

@[simp] theorem exec_inc_C (s : State) : exec (.inc_C) s = .next (modify 1 (.reg .C) inc8 s) := rfl

@[simp] theorem exec_dec_C (s : State) : exec (.dec_C) s = .next (modify 1 (.reg .C) dec8 s) := rfl

@[simp] theorem exec_ld_C_n (n : Byte) (s : State) : exec (.ld_C_n n) s = .next (loadReg .C 2 (.imm n) s) := rfl

@[simp] theorem exec_rrca (s : State) : exec (.rrca) s = .next (rotateA .rrc s) := rfl

@[simp] theorem exec_stop (n : Byte) (s : State) : exec (.stop n) s = .next (s.unimplemented 0x10 1) := rfl

@[simp] theorem exec_ld_DE_nn (nn : Word) (s : State) : exec (.ld_DE_nn nn) s = .next (loadPair .DE nn s) := rfl

@[simp] theorem exec_ld_atDE_A (s : State) : exec (.ld_atDE_A) s = .next (storeByte 1 s.de (s.r8 .A) s) := rfl

@[simp] theorem exec_inc_DE (s : State) : exec (.inc_DE) s = .next (addPair .DE 1 s) := rfl

@[simp] theorem exec_inc_D (s : State) : exec (.inc_D) s = .next (modify 1 (.reg .D) inc8 s) := rfl

@[simp] theorem exec_dec_D (s : State) : exec (.dec_D) s = .next (modify 1 (.reg .D) dec8 s) := rfl

@[simp] theorem exec_ld_D_n (n : Byte) (s : State) : exec (.ld_D_n n) s = .next (loadReg .D 2 (.imm n) s) := rfl

@[simp] theorem exec_rla (s : State) : exec (.rla) s = .next (rotateA .rl s) := rfl

@[simp] theorem exec_jr_e (e : Byte) (s : State) : exec (.jr_e e) s = .next (jumpRel e s) := rfl

@[simp] theorem exec_add_HL_DE (s : State) : exec (.add_HL_DE) s = .next (addHL .DE s) := rfl

@[simp] theorem exec_ld_A_atDE (s : State) : exec (.ld_A_atDE) s = .next (loadReg .A 1 (.mem s.de) s) := rfl

@[simp] theorem exec_dec_DE (s : State) : exec (.dec_DE) s = .next (addPair .DE (-1) s) := rfl

@[simp] theorem exec_inc_E (s : State) : exec (.inc_E) s = .next (modify 1 (.reg .E) inc8 s) := rfl

@[simp] theorem exec_dec_E (s : State) : exec (.dec_E) s = .next (modify 1 (.reg .E) dec8 s) := rfl

@[simp] theorem exec_ld_E_n (n : Byte) (s : State) : exec (.ld_E_n n) s = .next (loadReg .E 2 (.imm n) s) := rfl

@[simp] theorem exec_rra (s : State) : exec (.rra) s = .next (rotateA .rr s) := rfl

@[simp] theorem exec_jr_NZ_e (e : Byte) (s : State) : exec (.jr_NZ_e e) s = .next (jumpRelIf .NZ e s) := rfl

@[simp] theorem exec_ld_HL_nn (nn : Word) (s : State) : exec (.ld_HL_nn nn) s = .next (loadPair .HL nn s) := rfl

@[simp] theorem exec_ldi_atHL_A (s : State) : exec (.ldi_atHL_A) s = .next (stepHL (1) (storeByte 1 s.hl (s.r8 .A) s)) := rfl

@[simp] theorem exec_inc_HL (s : State) : exec (.inc_HL) s = .next (addPair .HL 1 s) := rfl

@[simp] theorem exec_inc_H (s : State) : exec (.inc_H) s = .next (modify 1 (.reg .H) inc8 s) := rfl

@[simp] theorem exec_dec_H (s : State) : exec (.dec_H) s = .next (modify 1 (.reg .H) dec8 s) := rfl

@[simp] theorem exec_ld_H_n (n : Byte) (s : State) : exec (.ld_H_n n) s = .next (loadReg .H 2 (.imm n) s) := rfl

@[simp] theorem exec_daa (s : State) : exec (.daa) s = .next (decimalAdjust s) := rfl

@[simp] theorem exec_jr_Z_e (e : Byte) (s : State) : exec (.jr_Z_e e) s = .next (jumpRelIf .Z e s) := rfl

@[simp] theorem exec_add_HL_HL (s : State) : exec (.add_HL_HL) s = .next (addHL .HL s) := rfl

@[simp] theorem exec_ldi_A_atHL (s : State) : exec (.ldi_A_atHL) s = .next (stepHL (1) (loadReg .A 1 (.mem s.hl) s)) := rfl

@[simp] theorem exec_dec_HL (s : State) : exec (.dec_HL) s = .next (addPair .HL (-1) s) := rfl

@[simp] theorem exec_inc_L (s : State) : exec (.inc_L) s = .next (modify 1 (.reg .L) inc8 s) := rfl

@[simp] theorem exec_dec_L (s : State) : exec (.dec_L) s = .next (modify 1 (.reg .L) dec8 s) := rfl

@[simp] theorem exec_ld_L_n (n : Byte) (s : State) : exec (.ld_L_n n) s = .next (loadReg .L 2 (.imm n) s) := rfl

@[simp] theorem exec_cpl (s : State) : exec (.cpl) s = .next (complementA s) := rfl

@[simp] theorem exec_jr_NC_e (e : Byte) (s : State) : exec (.jr_NC_e e) s = .next (jumpRelIf .NC e s) := rfl

@[simp] theorem exec_ld_SP_nn (nn : Word) (s : State) : exec (.ld_SP_nn nn) s = .next (loadPair .SP nn s) := rfl

@[simp] theorem exec_ldd_atHL_A (s : State) : exec (.ldd_atHL_A) s = .next (stepHL (-1) (storeByte 1 s.hl (s.r8 .A) s)) := rfl

@[simp] theorem exec_inc_SP (s : State) : exec (.inc_SP) s = .next (addPair .SP 1 s) := rfl

@[simp] theorem exec_inc_atHL (s : State) : exec (.inc_atHL) s = .next (modify 1 (.mem s.hl) inc8 s) := rfl

@[simp] theorem exec_dec_atHL (s : State) : exec (.dec_atHL) s = .next (modify 1 (.mem s.hl) dec8 s) := rfl

@[simp] theorem exec_ld_atHL_n (n : Byte) (s : State) : exec (.ld_atHL_n n) s = .next (storeByte 2 s.hl n s) := rfl

@[simp] theorem exec_scf (s : State) : exec (.scf) s = .next (setCarry s) := rfl

@[simp] theorem exec_jr_C_e (e : Byte) (s : State) : exec (.jr_C_e e) s = .next (jumpRelIf .C e s) := rfl

@[simp] theorem exec_add_HL_SP (s : State) : exec (.add_HL_SP) s = .next (addHL .SP s) := rfl

@[simp] theorem exec_ldd_A_atHL (s : State) : exec (.ldd_A_atHL) s = .next (stepHL (-1) (loadReg .A 1 (.mem s.hl) s)) := rfl

@[simp] theorem exec_dec_SP (s : State) : exec (.dec_SP) s = .next (addPair .SP (-1) s) := rfl

@[simp] theorem exec_inc_A (s : State) : exec (.inc_A) s = .next (modify 1 (.reg .A) inc8 s) := rfl

@[simp] theorem exec_dec_A (s : State) : exec (.dec_A) s = .next (modify 1 (.reg .A) dec8 s) := rfl

@[simp] theorem exec_ld_A_n (n : Byte) (s : State) : exec (.ld_A_n n) s = .next (loadReg .A 2 (.imm n) s) := rfl

@[simp] theorem exec_ccf (s : State) : exec (.ccf) s = .next (complementCarry s) := rfl

@[simp] theorem exec_ld_B_B (s : State) : exec (.ld_B_B) s = .next (loadReg .B 1 (.reg .B) s) := rfl

@[simp] theorem exec_ld_B_C (s : State) : exec (.ld_B_C) s = .next (loadReg .B 1 (.reg .C) s) := rfl

@[simp] theorem exec_ld_B_D (s : State) : exec (.ld_B_D) s = .next (loadReg .B 1 (.reg .D) s) := rfl

@[simp] theorem exec_ld_B_E (s : State) : exec (.ld_B_E) s = .next (loadReg .B 1 (.reg .E) s) := rfl

@[simp] theorem exec_ld_B_H (s : State) : exec (.ld_B_H) s = .next (loadReg .B 1 (.reg .H) s) := rfl

@[simp] theorem exec_ld_B_L (s : State) : exec (.ld_B_L) s = .next (loadReg .B 1 (.reg .L) s) := rfl

@[simp] theorem exec_ld_B_atHL (s : State) : exec (.ld_B_atHL) s = .next (loadReg .B 1 (.mem s.hl) s) := rfl

@[simp] theorem exec_ld_B_A (s : State) : exec (.ld_B_A) s = .next (loadReg .B 1 (.reg .A) s) := rfl

@[simp] theorem exec_ld_C_B (s : State) : exec (.ld_C_B) s = .next (loadReg .C 1 (.reg .B) s) := rfl

@[simp] theorem exec_ld_C_C (s : State) : exec (.ld_C_C) s = .next (loadReg .C 1 (.reg .C) s) := rfl

@[simp] theorem exec_ld_C_D (s : State) : exec (.ld_C_D) s = .next (loadReg .C 1 (.reg .D) s) := rfl

@[simp] theorem exec_ld_C_E (s : State) : exec (.ld_C_E) s = .next (loadReg .C 1 (.reg .E) s) := rfl

@[simp] theorem exec_ld_C_H (s : State) : exec (.ld_C_H) s = .next (loadReg .C 1 (.reg .H) s) := rfl

@[simp] theorem exec_ld_C_L (s : State) : exec (.ld_C_L) s = .next (loadReg .C 1 (.reg .L) s) := rfl

@[simp] theorem exec_ld_C_atHL (s : State) : exec (.ld_C_atHL) s = .next (loadReg .C 1 (.mem s.hl) s) := rfl

@[simp] theorem exec_ld_C_A (s : State) : exec (.ld_C_A) s = .next (loadReg .C 1 (.reg .A) s) := rfl

@[simp] theorem exec_ld_D_B (s : State) : exec (.ld_D_B) s = .next (loadReg .D 1 (.reg .B) s) := rfl

@[simp] theorem exec_ld_D_C (s : State) : exec (.ld_D_C) s = .next (loadReg .D 1 (.reg .C) s) := rfl

@[simp] theorem exec_ld_D_D (s : State) : exec (.ld_D_D) s = .next (loadReg .D 1 (.reg .D) s) := rfl

@[simp] theorem exec_ld_D_E (s : State) : exec (.ld_D_E) s = .next (loadReg .D 1 (.reg .E) s) := rfl

@[simp] theorem exec_ld_D_H (s : State) : exec (.ld_D_H) s = .next (loadReg .D 1 (.reg .H) s) := rfl

@[simp] theorem exec_ld_D_L (s : State) : exec (.ld_D_L) s = .next (loadReg .D 1 (.reg .L) s) := rfl

@[simp] theorem exec_ld_D_atHL (s : State) : exec (.ld_D_atHL) s = .next (loadReg .D 1 (.mem s.hl) s) := rfl

@[simp] theorem exec_ld_D_A (s : State) : exec (.ld_D_A) s = .next (loadReg .D 1 (.reg .A) s) := rfl

@[simp] theorem exec_ld_E_B (s : State) : exec (.ld_E_B) s = .next (loadReg .E 1 (.reg .B) s) := rfl

@[simp] theorem exec_ld_E_C (s : State) : exec (.ld_E_C) s = .next (loadReg .E 1 (.reg .C) s) := rfl

@[simp] theorem exec_ld_E_D (s : State) : exec (.ld_E_D) s = .next (loadReg .E 1 (.reg .D) s) := rfl

@[simp] theorem exec_ld_E_E (s : State) : exec (.ld_E_E) s = .next (loadReg .E 1 (.reg .E) s) := rfl

@[simp] theorem exec_ld_E_H (s : State) : exec (.ld_E_H) s = .next (loadReg .E 1 (.reg .H) s) := rfl

@[simp] theorem exec_ld_E_L (s : State) : exec (.ld_E_L) s = .next (loadReg .E 1 (.reg .L) s) := rfl

@[simp] theorem exec_ld_E_atHL (s : State) : exec (.ld_E_atHL) s = .next (loadReg .E 1 (.mem s.hl) s) := rfl

@[simp] theorem exec_ld_E_A (s : State) : exec (.ld_E_A) s = .next (loadReg .E 1 (.reg .A) s) := rfl

@[simp] theorem exec_ld_H_B (s : State) : exec (.ld_H_B) s = .next (loadReg .H 1 (.reg .B) s) := rfl

@[simp] theorem exec_ld_H_C (s : State) : exec (.ld_H_C) s = .next (loadReg .H 1 (.reg .C) s) := rfl

@[simp] theorem exec_ld_H_D (s : State) : exec (.ld_H_D) s = .next (loadReg .H 1 (.reg .D) s) := rfl

@[simp] theorem exec_ld_H_E (s : State) : exec (.ld_H_E) s = .next (loadReg .H 1 (.reg .E) s) := rfl

@[simp] theorem exec_ld_H_H (s : State) : exec (.ld_H_H) s = .next (loadReg .H 1 (.reg .H) s) := rfl

@[simp] theorem exec_ld_H_L (s : State) : exec (.ld_H_L) s = .next (loadReg .H 1 (.reg .L) s) := rfl

@[simp] theorem exec_ld_H_atHL (s : State) : exec (.ld_H_atHL) s = .next (loadReg .H 1 (.mem s.hl) s) := rfl

@[simp] theorem exec_ld_H_A (s : State) : exec (.ld_H_A) s = .next (loadReg .H 1 (.reg .A) s) := rfl

@[simp] theorem exec_ld_L_B (s : State) : exec (.ld_L_B) s = .next (loadReg .L 1 (.reg .B) s) := rfl

@[simp] theorem exec_ld_L_C (s : State) : exec (.ld_L_C) s = .next (loadReg .L 1 (.reg .C) s) := rfl

@[simp] theorem exec_ld_L_D (s : State) : exec (.ld_L_D) s = .next (loadReg .L 1 (.reg .D) s) := rfl

@[simp] theorem exec_ld_L_E (s : State) : exec (.ld_L_E) s = .next (loadReg .L 1 (.reg .E) s) := rfl

@[simp] theorem exec_ld_L_H (s : State) : exec (.ld_L_H) s = .next (loadReg .L 1 (.reg .H) s) := rfl

@[simp] theorem exec_ld_L_L (s : State) : exec (.ld_L_L) s = .next (loadReg .L 1 (.reg .L) s) := rfl

@[simp] theorem exec_ld_L_atHL (s : State) : exec (.ld_L_atHL) s = .next (loadReg .L 1 (.mem s.hl) s) := rfl

@[simp] theorem exec_ld_L_A (s : State) : exec (.ld_L_A) s = .next (loadReg .L 1 (.reg .A) s) := rfl

@[simp] theorem exec_ld_atHL_B (s : State) : exec (.ld_atHL_B) s = .next (storeByte 1 s.hl (s.r8 .B) s) := rfl

@[simp] theorem exec_ld_atHL_C (s : State) : exec (.ld_atHL_C) s = .next (storeByte 1 s.hl (s.r8 .C) s) := rfl

@[simp] theorem exec_ld_atHL_D (s : State) : exec (.ld_atHL_D) s = .next (storeByte 1 s.hl (s.r8 .D) s) := rfl

@[simp] theorem exec_ld_atHL_E (s : State) : exec (.ld_atHL_E) s = .next (storeByte 1 s.hl (s.r8 .E) s) := rfl

@[simp] theorem exec_ld_atHL_H (s : State) : exec (.ld_atHL_H) s = .next (storeByte 1 s.hl (s.r8 .H) s) := rfl

@[simp] theorem exec_ld_atHL_L (s : State) : exec (.ld_atHL_L) s = .next (storeByte 1 s.hl (s.r8 .L) s) := rfl

@[simp] theorem exec_halt (s : State) : exec (.halt) s = .next (halt s) := rfl

@[simp] theorem exec_ld_atHL_A (s : State) : exec (.ld_atHL_A) s = .next (storeByte 1 s.hl (s.r8 .A) s) := rfl

@[simp] theorem exec_ld_A_B (s : State) : exec (.ld_A_B) s = .next (loadReg .A 1 (.reg .B) s) := rfl

@[simp] theorem exec_ld_A_C (s : State) : exec (.ld_A_C) s = .next (loadReg .A 1 (.reg .C) s) := rfl

@[simp] theorem exec_ld_A_D (s : State) : exec (.ld_A_D) s = .next (loadReg .A 1 (.reg .D) s) := rfl

@[simp] theorem exec_ld_A_E (s : State) : exec (.ld_A_E) s = .next (loadReg .A 1 (.reg .E) s) := rfl

@[simp] theorem exec_ld_A_H (s : State) : exec (.ld_A_H) s = .next (loadReg .A 1 (.reg .H) s) := rfl

@[simp] theorem exec_ld_A_L (s : State) : exec (.ld_A_L) s = .next (loadReg .A 1 (.reg .L) s) := rfl

@[simp] theorem exec_ld_A_atHL (s : State) : exec (.ld_A_atHL) s = .next (loadReg .A 1 (.mem s.hl) s) := rfl

@[simp] theorem exec_ld_A_A (s : State) : exec (.ld_A_A) s = .next (loadReg .A 1 (.reg .A) s) := rfl

@[simp] theorem exec_add_A_B (s : State) : exec (.add_A_B) s = .next (aluA .add 1 (.reg .B) s) := rfl

@[simp] theorem exec_add_A_C (s : State) : exec (.add_A_C) s = .next (aluA .add 1 (.reg .C) s) := rfl

@[simp] theorem exec_add_A_D (s : State) : exec (.add_A_D) s = .next (aluA .add 1 (.reg .D) s) := rfl

@[simp] theorem exec_add_A_E (s : State) : exec (.add_A_E) s = .next (aluA .add 1 (.reg .E) s) := rfl

@[simp] theorem exec_add_A_H (s : State) : exec (.add_A_H) s = .next (aluA .add 1 (.reg .H) s) := rfl

@[simp] theorem exec_add_A_L (s : State) : exec (.add_A_L) s = .next (aluA .add 1 (.reg .L) s) := rfl

@[simp] theorem exec_add_A_atHL (s : State) : exec (.add_A_atHL) s = .next (aluA .add 1 (.mem s.hl) s) := rfl

@[simp] theorem exec_add_A_A (s : State) : exec (.add_A_A) s = .next (aluA .add 1 (.reg .A) s) := rfl

@[simp] theorem exec_adc_A_B (s : State) : exec (.adc_A_B) s = .next (aluA .adc 1 (.reg .B) s) := rfl

@[simp] theorem exec_adc_A_C (s : State) : exec (.adc_A_C) s = .next (aluA .adc 1 (.reg .C) s) := rfl

@[simp] theorem exec_adc_A_D (s : State) : exec (.adc_A_D) s = .next (aluA .adc 1 (.reg .D) s) := rfl

@[simp] theorem exec_adc_A_E (s : State) : exec (.adc_A_E) s = .next (aluA .adc 1 (.reg .E) s) := rfl

@[simp] theorem exec_adc_A_H (s : State) : exec (.adc_A_H) s = .next (aluA .adc 1 (.reg .H) s) := rfl

@[simp] theorem exec_adc_A_L (s : State) : exec (.adc_A_L) s = .next (aluA .adc 1 (.reg .L) s) := rfl

@[simp] theorem exec_adc_A_atHL (s : State) : exec (.adc_A_atHL) s = .next (aluA .adc 1 (.mem s.hl) s) := rfl

@[simp] theorem exec_adc_A_A (s : State) : exec (.adc_A_A) s = .next (aluA .adc 1 (.reg .A) s) := rfl

@[simp] theorem exec_sub_B (s : State) : exec (.sub_B) s = .next (aluA .sub 1 (.reg .B) s) := rfl

@[simp] theorem exec_sub_C (s : State) : exec (.sub_C) s = .next (aluA .sub 1 (.reg .C) s) := rfl

@[simp] theorem exec_sub_D (s : State) : exec (.sub_D) s = .next (aluA .sub 1 (.reg .D) s) := rfl

@[simp] theorem exec_sub_E (s : State) : exec (.sub_E) s = .next (aluA .sub 1 (.reg .E) s) := rfl

@[simp] theorem exec_sub_H (s : State) : exec (.sub_H) s = .next (aluA .sub 1 (.reg .H) s) := rfl

@[simp] theorem exec_sub_L (s : State) : exec (.sub_L) s = .next (aluA .sub 1 (.reg .L) s) := rfl

@[simp] theorem exec_sub_atHL (s : State) : exec (.sub_atHL) s = .next (aluA .sub 1 (.mem s.hl) s) := rfl

@[simp] theorem exec_sub_A (s : State) : exec (.sub_A) s = .next (aluA .sub 1 (.reg .A) s) := rfl

@[simp] theorem exec_sbc_A_B (s : State) : exec (.sbc_A_B) s = .next (aluA .sbc 1 (.reg .B) s) := rfl

@[simp] theorem exec_sbc_A_C (s : State) : exec (.sbc_A_C) s = .next (aluA .sbc 1 (.reg .C) s) := rfl

@[simp] theorem exec_sbc_A_D (s : State) : exec (.sbc_A_D) s = .next (aluA .sbc 1 (.reg .D) s) := rfl

@[simp] theorem exec_sbc_A_E (s : State) : exec (.sbc_A_E) s = .next (aluA .sbc 1 (.reg .E) s) := rfl

@[simp] theorem exec_sbc_A_H (s : State) : exec (.sbc_A_H) s = .next (aluA .sbc 1 (.reg .H) s) := rfl

@[simp] theorem exec_sbc_A_L (s : State) : exec (.sbc_A_L) s = .next (aluA .sbc 1 (.reg .L) s) := rfl

@[simp] theorem exec_sbc_A_atHL (s : State) : exec (.sbc_A_atHL) s = .next (aluA .sbc 1 (.mem s.hl) s) := rfl

@[simp] theorem exec_sbc_A_A (s : State) : exec (.sbc_A_A) s = .next (aluA .sbc 1 (.reg .A) s) := rfl

@[simp] theorem exec_and_B (s : State) : exec (.and_B) s = .next (aluA .and 1 (.reg .B) s) := rfl

@[simp] theorem exec_and_C (s : State) : exec (.and_C) s = .next (aluA .and 1 (.reg .C) s) := rfl

@[simp] theorem exec_and_D (s : State) : exec (.and_D) s = .next (aluA .and 1 (.reg .D) s) := rfl

@[simp] theorem exec_and_E (s : State) : exec (.and_E) s = .next (aluA .and 1 (.reg .E) s) := rfl

@[simp] theorem exec_and_H (s : State) : exec (.and_H) s = .next (aluA .and 1 (.reg .H) s) := rfl

@[simp] theorem exec_and_L (s : State) : exec (.and_L) s = .next (aluA .and 1 (.reg .L) s) := rfl

@[simp] theorem exec_and_atHL (s : State) : exec (.and_atHL) s = .next (aluA .and 1 (.mem s.hl) s) := rfl

@[simp] theorem exec_and_A (s : State) : exec (.and_A) s = .next (aluA .and 1 (.reg .A) s) := rfl

@[simp] theorem exec_xor_B (s : State) : exec (.xor_B) s = .next (aluA .xor 1 (.reg .B) s) := rfl

@[simp] theorem exec_xor_C (s : State) : exec (.xor_C) s = .next (aluA .xor 1 (.reg .C) s) := rfl

@[simp] theorem exec_xor_D (s : State) : exec (.xor_D) s = .next (aluA .xor 1 (.reg .D) s) := rfl

@[simp] theorem exec_xor_E (s : State) : exec (.xor_E) s = .next (aluA .xor 1 (.reg .E) s) := rfl

@[simp] theorem exec_xor_H (s : State) : exec (.xor_H) s = .next (aluA .xor 1 (.reg .H) s) := rfl

@[simp] theorem exec_xor_L (s : State) : exec (.xor_L) s = .next (aluA .xor 1 (.reg .L) s) := rfl

@[simp] theorem exec_xor_atHL (s : State) : exec (.xor_atHL) s = .next (aluA .xor 1 (.mem s.hl) s) := rfl

@[simp] theorem exec_xor_A (s : State) : exec (.xor_A) s = .next (aluA .xor 1 (.reg .A) s) := rfl

@[simp] theorem exec_or_B (s : State) : exec (.or_B) s = .next (aluA .or 1 (.reg .B) s) := rfl

@[simp] theorem exec_or_C (s : State) : exec (.or_C) s = .next (aluA .or 1 (.reg .C) s) := rfl

@[simp] theorem exec_or_D (s : State) : exec (.or_D) s = .next (aluA .or 1 (.reg .D) s) := rfl

@[simp] theorem exec_or_E (s : State) : exec (.or_E) s = .next (aluA .or 1 (.reg .E) s) := rfl

@[simp] theorem exec_or_H (s : State) : exec (.or_H) s = .next (aluA .or 1 (.reg .H) s) := rfl

@[simp] theorem exec_or_L (s : State) : exec (.or_L) s = .next (aluA .or 1 (.reg .L) s) := rfl

@[simp] theorem exec_or_atHL (s : State) : exec (.or_atHL) s = .next (aluA .or 1 (.mem s.hl) s) := rfl

@[simp] theorem exec_or_A (s : State) : exec (.or_A) s = .next (aluA .or 1 (.reg .A) s) := rfl

@[simp] theorem exec_cp_B (s : State) : exec (.cp_B) s = .next (aluA .cp 1 (.reg .B) s) := rfl

@[simp] theorem exec_cp_C (s : State) : exec (.cp_C) s = .next (aluA .cp 1 (.reg .C) s) := rfl

@[simp] theorem exec_cp_D (s : State) : exec (.cp_D) s = .next (aluA .cp 1 (.reg .D) s) := rfl

@[simp] theorem exec_cp_E (s : State) : exec (.cp_E) s = .next (aluA .cp 1 (.reg .E) s) := rfl

@[simp] theorem exec_cp_H (s : State) : exec (.cp_H) s = .next (aluA .cp 1 (.reg .H) s) := rfl

@[simp] theorem exec_cp_L (s : State) : exec (.cp_L) s = .next (aluA .cp 1 (.reg .L) s) := rfl

@[simp] theorem exec_cp_atHL (s : State) : exec (.cp_atHL) s = .next (aluA .cp 1 (.mem s.hl) s) := rfl

@[simp] theorem exec_cp_A (s : State) : exec (.cp_A) s = .next (aluA .cp 1 (.reg .A) s) := rfl

@[simp] theorem exec_ret_NZ (s : State) : exec (.ret_NZ) s = .next (retIf .NZ s) := rfl

@[simp] theorem exec_pop_BC (s : State) : exec (.pop_BC) s = .next (popPair .BC s) := rfl

@[simp] theorem exec_jp_NZ_nn (nn : Word) (s : State) : exec (.jp_NZ_nn nn) s = .next (jumpIf .NZ nn s) := rfl

@[simp] theorem exec_jp_nn (nn : Word) (s : State) : exec (.jp_nn nn) s = .next (jump nn s) := rfl

@[simp] theorem exec_call_NZ_nn (nn : Word) (s : State) : exec (.call_NZ_nn nn) s = .next (callIf .NZ nn s) := rfl

@[simp] theorem exec_push_BC (s : State) : exec (.push_BC) s = .next (pushPair .BC s) := rfl

@[simp] theorem exec_add_A_n (n : Byte) (s : State) : exec (.add_A_n n) s = .next (aluA .add 2 (.imm n) s) := rfl

@[simp] theorem exec_rst_00H (s : State) : exec (.rst_00H) s = .next (call 1 0x0000 s) := rfl

@[simp] theorem exec_ret_Z (s : State) : exec (.ret_Z) s = .next (retIf .Z s) := rfl

@[simp] theorem exec_ret (s : State) : exec (.ret) s = .next (ret s) := rfl

@[simp] theorem exec_jp_Z_nn (nn : Word) (s : State) : exec (.jp_Z_nn nn) s = .next (jumpIf .Z nn s) := rfl

@[simp] theorem exec_prefixCB (op2 : Byte) (s : State) : exec (.prefixCB op2) s = .next (prefixed op2 s) := rfl

@[simp] theorem exec_call_Z_nn (nn : Word) (s : State) : exec (.call_Z_nn nn) s = .next (callIf .Z nn s) := rfl

@[simp] theorem exec_call_nn (nn : Word) (s : State) : exec (.call_nn nn) s = .next (call 3 nn s) := rfl

@[simp] theorem exec_adc_A_n (n : Byte) (s : State) : exec (.adc_A_n n) s = .next (aluA .adc 2 (.imm n) s) := rfl

@[simp] theorem exec_rst_08H (s : State) : exec (.rst_08H) s = .next (call 1 0x0008 s) := rfl

@[simp] theorem exec_ret_NC (s : State) : exec (.ret_NC) s = .next (retIf .NC s) := rfl

@[simp] theorem exec_pop_DE (s : State) : exec (.pop_DE) s = .next (popPair .DE s) := rfl

@[simp] theorem exec_jp_NC_nn (nn : Word) (s : State) : exec (.jp_NC_nn nn) s = .next (jumpIf .NC nn s) := rfl

@[simp] theorem exec_illegal_D3 (s : State) : exec (.illegal_D3) s = .next (s.unimplemented 0xD3 1) := rfl

@[simp] theorem exec_call_NC_nn (nn : Word) (s : State) : exec (.call_NC_nn nn) s = .next (callIf .NC nn s) := rfl

@[simp] theorem exec_push_DE (s : State) : exec (.push_DE) s = .next (pushPair .DE s) := rfl

@[simp] theorem exec_sub_n (n : Byte) (s : State) : exec (.sub_n n) s = .next (aluA .sub 2 (.imm n) s) := rfl

@[simp] theorem exec_rst_10H (s : State) : exec (.rst_10H) s = .next (call 1 0x0010 s) := rfl

@[simp] theorem exec_ret_C (s : State) : exec (.ret_C) s = .next (retIf .C s) := rfl

@[simp] theorem exec_reti (s : State) : exec (.reti) s = .next (reti s) := rfl

@[simp] theorem exec_jp_C_nn (nn : Word) (s : State) : exec (.jp_C_nn nn) s = .next (jumpIf .C nn s) := rfl

@[simp] theorem exec_illegal_DB (s : State) : exec (.illegal_DB) s = .next (s.unimplemented 0xDB 1) := rfl

@[simp] theorem exec_call_C_nn (nn : Word) (s : State) : exec (.call_C_nn nn) s = .next (callIf .C nn s) := rfl

@[simp] theorem exec_illegal_DD (s : State) : exec (.illegal_DD) s = .next (s.unimplemented 0xDD 1) := rfl

@[simp] theorem exec_sbc_A_n (n : Byte) (s : State) : exec (.sbc_A_n n) s = .next (aluA .sbc 2 (.imm n) s) := rfl

@[simp] theorem exec_rst_18H (s : State) : exec (.rst_18H) s = .next (call 1 0x0018 s) := rfl

@[simp] theorem exec_ldh_atn_A (n : Byte) (s : State) : exec (.ldh_atn_A n) s = .next (storeByte 2 (highPage n) (s.r8 .A) s) := rfl

@[simp] theorem exec_pop_HL (s : State) : exec (.pop_HL) s = .next (popPair .HL s) := rfl

@[simp] theorem exec_ld_atC_A (s : State) : exec (.ld_atC_A) s = .next (storeByte 1 (highPage (s.r8 .C)) (s.r8 .A) s) := rfl

@[simp] theorem exec_illegal_E3 (s : State) : exec (.illegal_E3) s = .next (s.unimplemented 0xE3 1) := rfl

@[simp] theorem exec_illegal_E4 (s : State) : exec (.illegal_E4) s = .next (s.unimplemented 0xE4 1) := rfl

@[simp] theorem exec_push_HL (s : State) : exec (.push_HL) s = .next (pushPair .HL s) := rfl

@[simp] theorem exec_and_n (n : Byte) (s : State) : exec (.and_n n) s = .next (aluA .and 2 (.imm n) s) := rfl

@[simp] theorem exec_rst_20H (s : State) : exec (.rst_20H) s = .next (call 1 0x0020 s) := rfl

@[simp] theorem exec_add_SP_e (e : Byte) (s : State) : exec (.add_SP_e e) s = .next (spOffsetTo .SP e s) := rfl

@[simp] theorem exec_jp_HL (s : State) : exec (.jp_HL) s = .next (jumpHL s) := rfl

@[simp] theorem exec_ld_atnn_A (nn : Word) (s : State) : exec (.ld_atnn_A nn) s = .next (storeByte 3 nn (s.r8 .A) s) := rfl

@[simp] theorem exec_illegal_EB (s : State) : exec (.illegal_EB) s = .next (s.unimplemented 0xEB 1) := rfl

@[simp] theorem exec_illegal_EC (s : State) : exec (.illegal_EC) s = .next (s.unimplemented 0xEC 1) := rfl

@[simp] theorem exec_illegal_ED (s : State) : exec (.illegal_ED) s = .next (s.unimplemented 0xED 1) := rfl

@[simp] theorem exec_xor_n (n : Byte) (s : State) : exec (.xor_n n) s = .next (aluA .xor 2 (.imm n) s) := rfl

@[simp] theorem exec_rst_28H (s : State) : exec (.rst_28H) s = .next (call 1 0x0028 s) := rfl

@[simp] theorem exec_ldh_A_atn (n : Byte) (s : State) : exec (.ldh_A_atn n) s = .next (loadReg .A 2 (.mem (highPage n)) s) := rfl

@[simp] theorem exec_pop_AF (s : State) : exec (.pop_AF) s = .next (popPair .AF s) := rfl

@[simp] theorem exec_ld_A_atC (s : State) : exec (.ld_A_atC) s = .next (loadReg .A 1 (.mem (highPage (s.r8 .C))) s) := rfl

@[simp] theorem exec_di (s : State) : exec (.di) s = .next (setIME false s) := rfl

@[simp] theorem exec_illegal_F4 (s : State) : exec (.illegal_F4) s = .next (s.unimplemented 0xF4 1) := rfl

@[simp] theorem exec_push_AF (s : State) : exec (.push_AF) s = .next (pushPair .AF s) := rfl

@[simp] theorem exec_or_n (n : Byte) (s : State) : exec (.or_n n) s = .next (aluA .or 2 (.imm n) s) := rfl

@[simp] theorem exec_rst_30H (s : State) : exec (.rst_30H) s = .next (call 1 0x0030 s) := rfl

@[simp] theorem exec_ld_HL_SPe (e : Byte) (s : State) : exec (.ld_HL_SPe e) s = .next (spOffsetTo .HL e s) := rfl

@[simp] theorem exec_ld_SP_HL (s : State) : exec (.ld_SP_HL) s = .next (copyHLtoSP s) := rfl

@[simp] theorem exec_ld_A_atnn (nn : Word) (s : State) : exec (.ld_A_atnn nn) s = .next (loadReg .A 3 (.mem nn) s) := rfl

@[simp] theorem exec_ei (s : State) : exec (.ei) s = .next (setIME true s) := rfl

@[simp] theorem exec_illegal_FC (s : State) : exec (.illegal_FC) s = .next (s.unimplemented 0xFC 1) := rfl

@[simp] theorem exec_illegal_FD (s : State) : exec (.illegal_FD) s = .next (s.unimplemented 0xFD 1) := rfl

@[simp] theorem exec_cp_n (n : Byte) (s : State) : exec (.cp_n n) s = .next (aluA .cp 2 (.imm n) s) := rfl

@[simp] theorem exec_rst_38H (s : State) : exec (.rst_38H) s = .next (call 1 0x0038 s) := rfl

@[simp] theorem exec_rlc_B (s : State) : exec (.rlc_B) s = .next (shiftOperand .rlc (.reg .B) s) := rfl

@[simp] theorem exec_rlc_C (s : State) : exec (.rlc_C) s = .next (shiftOperand .rlc (.reg .C) s) := rfl

@[simp] theorem exec_rlc_D (s : State) : exec (.rlc_D) s = .next (shiftOperand .rlc (.reg .D) s) := rfl

@[simp] theorem exec_rlc_E (s : State) : exec (.rlc_E) s = .next (shiftOperand .rlc (.reg .E) s) := rfl

@[simp] theorem exec_rlc_H (s : State) : exec (.rlc_H) s = .next (shiftOperand .rlc (.reg .H) s) := rfl

@[simp] theorem exec_rlc_L (s : State) : exec (.rlc_L) s = .next (shiftOperand .rlc (.reg .L) s) := rfl

@[simp] theorem exec_rlc_atHL (s : State) : exec (.rlc_atHL) s = .next (shiftOperand .rlc (.mem s.hl) s) := rfl

@[simp] theorem exec_rlc_A (s : State) : exec (.rlc_A) s = .next (shiftOperand .rlc (.reg .A) s) := rfl

@[simp] theorem exec_rrc_B (s : State) : exec (.rrc_B) s = .next (shiftOperand .rrc (.reg .B) s) := rfl

@[simp] theorem exec_rrc_C (s : State) : exec (.rrc_C) s = .next (shiftOperand .rrc (.reg .C) s) := rfl

@[simp] theorem exec_rrc_D (s : State) : exec (.rrc_D) s = .next (shiftOperand .rrc (.reg .D) s) := rfl

@[simp] theorem exec_rrc_E (s : State) : exec (.rrc_E) s = .next (shiftOperand .rrc (.reg .E) s) := rfl

@[simp] theorem exec_rrc_H (s : State) : exec (.rrc_H) s = .next (shiftOperand .rrc (.reg .H) s) := rfl

@[simp] theorem exec_rrc_L (s : State) : exec (.rrc_L) s = .next (shiftOperand .rrc (.reg .L) s) := rfl

@[simp] theorem exec_rrc_atHL (s : State) : exec (.rrc_atHL) s = .next (shiftOperand .rrc (.mem s.hl) s) := rfl

@[simp] theorem exec_rrc_A (s : State) : exec (.rrc_A) s = .next (shiftOperand .rrc (.reg .A) s) := rfl

@[simp] theorem exec_rl_B (s : State) : exec (.rl_B) s = .next (shiftOperand .rl (.reg .B) s) := rfl

@[simp] theorem exec_rl_C (s : State) : exec (.rl_C) s = .next (shiftOperand .rl (.reg .C) s) := rfl

@[simp] theorem exec_rl_D (s : State) : exec (.rl_D) s = .next (shiftOperand .rl (.reg .D) s) := rfl

@[simp] theorem exec_rl_E (s : State) : exec (.rl_E) s = .next (shiftOperand .rl (.reg .E) s) := rfl

@[simp] theorem exec_rl_H (s : State) : exec (.rl_H) s = .next (shiftOperand .rl (.reg .H) s) := rfl

@[simp] theorem exec_rl_L (s : State) : exec (.rl_L) s = .next (shiftOperand .rl (.reg .L) s) := rfl

@[simp] theorem exec_rl_atHL (s : State) : exec (.rl_atHL) s = .next (shiftOperand .rl (.mem s.hl) s) := rfl

@[simp] theorem exec_rl_A (s : State) : exec (.rl_A) s = .next (shiftOperand .rl (.reg .A) s) := rfl

@[simp] theorem exec_rr_B (s : State) : exec (.rr_B) s = .next (shiftOperand .rr (.reg .B) s) := rfl

@[simp] theorem exec_rr_C (s : State) : exec (.rr_C) s = .next (shiftOperand .rr (.reg .C) s) := rfl

@[simp] theorem exec_rr_D (s : State) : exec (.rr_D) s = .next (shiftOperand .rr (.reg .D) s) := rfl

@[simp] theorem exec_rr_E (s : State) : exec (.rr_E) s = .next (shiftOperand .rr (.reg .E) s) := rfl

@[simp] theorem exec_rr_H (s : State) : exec (.rr_H) s = .next (shiftOperand .rr (.reg .H) s) := rfl

@[simp] theorem exec_rr_L (s : State) : exec (.rr_L) s = .next (shiftOperand .rr (.reg .L) s) := rfl

@[simp] theorem exec_rr_atHL (s : State) : exec (.rr_atHL) s = .next (shiftOperand .rr (.mem s.hl) s) := rfl

@[simp] theorem exec_rr_A (s : State) : exec (.rr_A) s = .next (shiftOperand .rr (.reg .A) s) := rfl

@[simp] theorem exec_sla_B (s : State) : exec (.sla_B) s = .next (shiftOperand .sla (.reg .B) s) := rfl

@[simp] theorem exec_sla_C (s : State) : exec (.sla_C) s = .next (shiftOperand .sla (.reg .C) s) := rfl

@[simp] theorem exec_sla_D (s : State) : exec (.sla_D) s = .next (shiftOperand .sla (.reg .D) s) := rfl

@[simp] theorem exec_sla_E (s : State) : exec (.sla_E) s = .next (shiftOperand .sla (.reg .E) s) := rfl

@[simp] theorem exec_sla_H (s : State) : exec (.sla_H) s = .next (shiftOperand .sla (.reg .H) s) := rfl

@[simp] theorem exec_sla_L (s : State) : exec (.sla_L) s = .next (shiftOperand .sla (.reg .L) s) := rfl

@[simp] theorem exec_sla_atHL (s : State) : exec (.sla_atHL) s = .next (shiftOperand .sla (.mem s.hl) s) := rfl

@[simp] theorem exec_sla_A (s : State) : exec (.sla_A) s = .next (shiftOperand .sla (.reg .A) s) := rfl

@[simp] theorem exec_sra_B (s : State) : exec (.sra_B) s = .next (shiftOperand .sra (.reg .B) s) := rfl

@[simp] theorem exec_sra_C (s : State) : exec (.sra_C) s = .next (shiftOperand .sra (.reg .C) s) := rfl

@[simp] theorem exec_sra_D (s : State) : exec (.sra_D) s = .next (shiftOperand .sra (.reg .D) s) := rfl

@[simp] theorem exec_sra_E (s : State) : exec (.sra_E) s = .next (shiftOperand .sra (.reg .E) s) := rfl

@[simp] theorem exec_sra_H (s : State) : exec (.sra_H) s = .next (shiftOperand .sra (.reg .H) s) := rfl

@[simp] theorem exec_sra_L (s : State) : exec (.sra_L) s = .next (shiftOperand .sra (.reg .L) s) := rfl

@[simp] theorem exec_sra_atHL (s : State) : exec (.sra_atHL) s = .next (shiftOperand .sra (.mem s.hl) s) := rfl

@[simp] theorem exec_sra_A (s : State) : exec (.sra_A) s = .next (shiftOperand .sra (.reg .A) s) := rfl

@[simp] theorem exec_swap_B (s : State) : exec (.swap_B) s = .next (shiftOperand .swap (.reg .B) s) := rfl

@[simp] theorem exec_swap_C (s : State) : exec (.swap_C) s = .next (shiftOperand .swap (.reg .C) s) := rfl

@[simp] theorem exec_swap_D (s : State) : exec (.swap_D) s = .next (shiftOperand .swap (.reg .D) s) := rfl

@[simp] theorem exec_swap_E (s : State) : exec (.swap_E) s = .next (shiftOperand .swap (.reg .E) s) := rfl

@[simp] theorem exec_swap_H (s : State) : exec (.swap_H) s = .next (shiftOperand .swap (.reg .H) s) := rfl

@[simp] theorem exec_swap_L (s : State) : exec (.swap_L) s = .next (shiftOperand .swap (.reg .L) s) := rfl

@[simp] theorem exec_swap_atHL (s : State) : exec (.swap_atHL) s = .next (shiftOperand .swap (.mem s.hl) s) := rfl

@[simp] theorem exec_swap_A (s : State) : exec (.swap_A) s = .next (shiftOperand .swap (.reg .A) s) := rfl

@[simp] theorem exec_srl_B (s : State) : exec (.srl_B) s = .next (shiftOperand .srl (.reg .B) s) := rfl

@[simp] theorem exec_srl_C (s : State) : exec (.srl_C) s = .next (shiftOperand .srl (.reg .C) s) := rfl

@[simp] theorem exec_srl_D (s : State) : exec (.srl_D) s = .next (shiftOperand .srl (.reg .D) s) := rfl

@[simp] theorem exec_srl_E (s : State) : exec (.srl_E) s = .next (shiftOperand .srl (.reg .E) s) := rfl

@[simp] theorem exec_srl_H (s : State) : exec (.srl_H) s = .next (shiftOperand .srl (.reg .H) s) := rfl

@[simp] theorem exec_srl_L (s : State) : exec (.srl_L) s = .next (shiftOperand .srl (.reg .L) s) := rfl

@[simp] theorem exec_srl_atHL (s : State) : exec (.srl_atHL) s = .next (shiftOperand .srl (.mem s.hl) s) := rfl

@[simp] theorem exec_srl_A (s : State) : exec (.srl_A) s = .next (shiftOperand .srl (.reg .A) s) := rfl

@[simp] theorem exec_bit_b_B (b : BitVec 3) (s : State) : exec (.bit_b_B b) s = .next (testBit b (.reg .B) s) := rfl

@[simp] theorem exec_bit_b_C (b : BitVec 3) (s : State) : exec (.bit_b_C b) s = .next (testBit b (.reg .C) s) := rfl

@[simp] theorem exec_bit_b_D (b : BitVec 3) (s : State) : exec (.bit_b_D b) s = .next (testBit b (.reg .D) s) := rfl

@[simp] theorem exec_bit_b_E (b : BitVec 3) (s : State) : exec (.bit_b_E b) s = .next (testBit b (.reg .E) s) := rfl

@[simp] theorem exec_bit_b_H (b : BitVec 3) (s : State) : exec (.bit_b_H b) s = .next (testBit b (.reg .H) s) := rfl

@[simp] theorem exec_bit_b_L (b : BitVec 3) (s : State) : exec (.bit_b_L b) s = .next (testBit b (.reg .L) s) := rfl

@[simp] theorem exec_bit_b_atHL (b : BitVec 3) (s : State) : exec (.bit_b_atHL b) s = .next (testBit b (.mem s.hl) s) := rfl

@[simp] theorem exec_bit_b_A (b : BitVec 3) (s : State) : exec (.bit_b_A b) s = .next (testBit b (.reg .A) s) := rfl

@[simp] theorem exec_res_b_B (b : BitVec 3) (s : State) : exec (.res_b_B b) s = .next (resetBit b (.reg .B) s) := rfl

@[simp] theorem exec_res_b_C (b : BitVec 3) (s : State) : exec (.res_b_C b) s = .next (resetBit b (.reg .C) s) := rfl

@[simp] theorem exec_res_b_D (b : BitVec 3) (s : State) : exec (.res_b_D b) s = .next (resetBit b (.reg .D) s) := rfl

@[simp] theorem exec_res_b_E (b : BitVec 3) (s : State) : exec (.res_b_E b) s = .next (resetBit b (.reg .E) s) := rfl

@[simp] theorem exec_res_b_H (b : BitVec 3) (s : State) : exec (.res_b_H b) s = .next (resetBit b (.reg .H) s) := rfl

@[simp] theorem exec_res_b_L (b : BitVec 3) (s : State) : exec (.res_b_L b) s = .next (resetBit b (.reg .L) s) := rfl

@[simp] theorem exec_res_b_atHL (b : BitVec 3) (s : State) : exec (.res_b_atHL b) s = .next (resetBit b (.mem s.hl) s) := rfl

@[simp] theorem exec_res_b_A (b : BitVec 3) (s : State) : exec (.res_b_A b) s = .next (resetBit b (.reg .A) s) := rfl

@[simp] theorem exec_set_b_B (b : BitVec 3) (s : State) : exec (.set_b_B b) s = .next (setBit b (.reg .B) s) := rfl

@[simp] theorem exec_set_b_C (b : BitVec 3) (s : State) : exec (.set_b_C b) s = .next (setBit b (.reg .C) s) := rfl

@[simp] theorem exec_set_b_D (b : BitVec 3) (s : State) : exec (.set_b_D b) s = .next (setBit b (.reg .D) s) := rfl

@[simp] theorem exec_set_b_E (b : BitVec 3) (s : State) : exec (.set_b_E b) s = .next (setBit b (.reg .E) s) := rfl

@[simp] theorem exec_set_b_H (b : BitVec 3) (s : State) : exec (.set_b_H b) s = .next (setBit b (.reg .H) s) := rfl

@[simp] theorem exec_set_b_L (b : BitVec 3) (s : State) : exec (.set_b_L b) s = .next (setBit b (.reg .L) s) := rfl

@[simp] theorem exec_set_b_atHL (b : BitVec 3) (s : State) : exec (.set_b_atHL b) s = .next (setBit b (.mem s.hl) s) := rfl

@[simp] theorem exec_set_b_A (b : BitVec 3) (s : State) : exec (.set_b_A b) s = .next (setBit b (.reg .A) s) := rfl

/-- Every instruction answers a next state. -/
theorem exec_isNext (i : Instr) (s : State) : ∃ t, exec i s = .next t := by
  cases i <;> exact ⟨_, rfl⟩

end Sys2Proof.Machine
end

