-- ==== Sys2Proof/Laws/State.lean ====
section
/-! SUPPORT. One lemma per field per update of the state, so that no proof unfolds a record update. -/

namespace Sys2Proof.Machine

/-! ### `advance` -/

@[simp] theorem State.advance_af (s : State) (n : Nat) : (s.advance n).af = s.af := rfl

@[simp] theorem State.advance_bc (s : State) (n : Nat) : (s.advance n).bc = s.bc := rfl

@[simp] theorem State.advance_de (s : State) (n : Nat) : (s.advance n).de = s.de := rfl

@[simp] theorem State.advance_hl (s : State) (n : Nat) : (s.advance n).hl = s.hl := rfl

@[simp] theorem State.advance_sp (s : State) (n : Nat) : (s.advance n).sp = s.sp := rfl

@[simp] theorem State.advance_pc (s : State) (n : Nat) : (s.advance n).pc = s.pc + BitVec.ofNat 16 n := rfl

@[simp] theorem State.advance_ime (s : State) (n : Nat) : (s.advance n).ime = s.ime := rfl

@[simp] theorem State.advance_halted (s : State) (n : Nat) : (s.advance n).halted = s.halted := rfl

@[simp] theorem State.advance_cyc (s : State) (n : Nat) : (s.advance n).cyc = s.cyc := rfl

@[simp] theorem State.advance_fault (s : State) (n : Nat) : (s.advance n).fault = s.fault := rfl

@[simp] theorem State.advance_mem (s : State) (n : Nat) : (s.advance n).mem = s.mem := rfl

@[simp] theorem State.advance_divAcc (s : State) (n : Nat) : (s.advance n).divAcc = s.divAcc := rfl

@[simp] theorem State.advance_timaAcc (s : State) (n : Nat) : (s.advance n).timaAcc = s.timaAcc := rfl

@[simp] theorem State.advance_mode (s : State) (n : Nat) : (s.advance n).mode = s.mode := rfl

@[simp] theorem State.advance_dot (s : State) (n : Nat) : (s.advance n).dot = s.dot := rfl

@[simp] theorem State.advance_fb (s : State) (n : Nat) : (s.advance n).fb = s.fb := rfl

@[simp] theorem State.advance_diags (s : State) (n : Nat) : (s.advance n).diags = s.diags := rfl

@[simp] theorem State.advance_frames (s : State) (n : Nat) : (s.advance n).frames = s.frames := rfl

/-! ### `raise` -/

@[simp] theorem State.raise_af (s : State) (f : Fault) : (s.raise f).af = s.af := rfl

@[simp] theorem State.raise_bc (s : State) (f : Fault) : (s.raise f).bc = s.bc := rfl

@[simp] theorem State.raise_de (s : State) (f : Fault) : (s.raise f).de = s.de := rfl

@[simp] theorem State.raise_hl (s : State) (f : Fault) : (s.raise f).hl = s.hl := rfl

@[simp] theorem State.raise_sp (s : State) (f : Fault) : (s.raise f).sp = s.sp := rfl

@[simp] theorem State.raise_pc (s : State) (f : Fault) : (s.raise f).pc = s.pc := rfl

@[simp] theorem State.raise_ime (s : State) (f : Fault) : (s.raise f).ime = s.ime := rfl

@[simp] theorem State.raise_halted (s : State) (f : Fault) : (s.raise f).halted = s.halted := rfl

@[simp] theorem State.raise_cyc (s : State) (f : Fault) : (s.raise f).cyc = s.cyc := rfl

@[simp] theorem State.raise_mem (s : State) (f : Fault) : (s.raise f).mem = s.mem := rfl

@[simp] theorem State.raise_divAcc (s : State) (f : Fault) : (s.raise f).divAcc = s.divAcc := rfl

@[simp] theorem State.raise_timaAcc (s : State) (f : Fault) : (s.raise f).timaAcc = s.timaAcc := rfl

@[simp] theorem State.raise_mode (s : State) (f : Fault) : (s.raise f).mode = s.mode := rfl

@[simp] theorem State.raise_dot (s : State) (f : Fault) : (s.raise f).dot = s.dot := rfl

@[simp] theorem State.raise_fb (s : State) (f : Fault) : (s.raise f).fb = s.fb := rfl

@[simp] theorem State.raise_diags (s : State) (f : Fault) : (s.raise f).diags = s.diags := rfl

@[simp] theorem State.raise_frames (s : State) (f : Fault) : (s.raise f).frames = s.frames := rfl

@[simp] theorem State.raise_fault_of_none (s : State) (f : Fault) (h : s.fault = none) : (s.raise f).fault = some f := by
  simp [State.raise, h]

theorem State.raise_fault_of_some (s : State) (f g : Fault) (h : s.fault = some g) : (s.raise f).fault = some g := by
  simp [State.raise, h]

/-! ### `devWrite` -/

@[simp] theorem State.devWrite_af (s : State) (k : Nat) (v : Byte) : (s.devWrite k v).af = s.af := rfl

@[simp] theorem State.devWrite_bc (s : State) (k : Nat) (v : Byte) : (s.devWrite k v).bc = s.bc := rfl

@[simp] theorem State.devWrite_de (s : State) (k : Nat) (v : Byte) : (s.devWrite k v).de = s.de := rfl

@[simp] theorem State.devWrite_hl (s : State) (k : Nat) (v : Byte) : (s.devWrite k v).hl = s.hl := rfl

@[simp] theorem State.devWrite_sp (s : State) (k : Nat) (v : Byte) : (s.devWrite k v).sp = s.sp := rfl

@[simp] theorem State.devWrite_pc (s : State) (k : Nat) (v : Byte) : (s.devWrite k v).pc = s.pc := rfl

@[simp] theorem State.devWrite_ime (s : State) (k : Nat) (v : Byte) : (s.devWrite k v).ime = s.ime := rfl

@[simp] theorem State.devWrite_halted (s : State) (k : Nat) (v : Byte) : (s.devWrite k v).halted = s.halted := rfl

@[simp] theorem State.devWrite_cyc (s : State) (k : Nat) (v : Byte) : (s.devWrite k v).cyc = s.cyc := rfl

@[simp] theorem State.devWrite_fault (s : State) (k : Nat) (v : Byte) : (s.devWrite k v).fault = s.fault := rfl

@[simp] theorem State.devWrite_mem (s : State) (k : Nat) (v : Byte) : (s.devWrite k v).mem = Memory.poke s.mem k v := rfl

@[simp] theorem State.devWrite_divAcc (s : State) (k : Nat) (v : Byte) : (s.devWrite k v).divAcc = s.divAcc := rfl

@[simp] theorem State.devWrite_timaAcc (s : State) (k : Nat) (v : Byte) : (s.devWrite k v).timaAcc = s.timaAcc := rfl

@[simp] theorem State.devWrite_mode (s : State) (k : Nat) (v : Byte) : (s.devWrite k v).mode = s.mode := rfl

@[simp] theorem State.devWrite_dot (s : State) (k : Nat) (v : Byte) : (s.devWrite k v).dot = s.dot := rfl

@[simp] theorem State.devWrite_fb (s : State) (k : Nat) (v : Byte) : (s.devWrite k v).fb = s.fb := rfl

@[simp] theorem State.devWrite_diags (s : State) (k : Nat) (v : Byte) : (s.devWrite k v).diags = s.diags := rfl

@[simp] theorem State.devWrite_frames (s : State) (k : Nat) (v : Byte) : (s.devWrite k v).frames = s.frames := rfl

/-! ### `emitDiag` -/

@[simp] theorem State.emitDiag_af (s : State) (b : Byte) : (s.emitDiag b).af = s.af := rfl

@[simp] theorem State.emitDiag_bc (s : State) (b : Byte) : (s.emitDiag b).bc = s.bc := rfl

@[simp] theorem State.emitDiag_de (s : State) (b : Byte) : (s.emitDiag b).de = s.de := rfl

@[simp] theorem State.emitDiag_hl (s : State) (b : Byte) : (s.emitDiag b).hl = s.hl := rfl

@[simp] theorem State.emitDiag_sp (s : State) (b : Byte) : (s.emitDiag b).sp = s.sp := rfl

@[simp] theorem State.emitDiag_pc (s : State) (b : Byte) : (s.emitDiag b).pc = s.pc := rfl

@[simp] theorem State.emitDiag_ime (s : State) (b : Byte) : (s.emitDiag b).ime = s.ime := rfl

@[simp] theorem State.emitDiag_halted (s : State) (b : Byte) : (s.emitDiag b).halted = s.halted := rfl

@[simp] theorem State.emitDiag_cyc (s : State) (b : Byte) : (s.emitDiag b).cyc = s.cyc := rfl

@[simp] theorem State.emitDiag_fault (s : State) (b : Byte) : (s.emitDiag b).fault = s.fault := rfl

@[simp] theorem State.emitDiag_mem (s : State) (b : Byte) : (s.emitDiag b).mem = s.mem := rfl

@[simp] theorem State.emitDiag_divAcc (s : State) (b : Byte) : (s.emitDiag b).divAcc = s.divAcc := rfl

@[simp] theorem State.emitDiag_timaAcc (s : State) (b : Byte) : (s.emitDiag b).timaAcc = s.timaAcc := rfl

@[simp] theorem State.emitDiag_mode (s : State) (b : Byte) : (s.emitDiag b).mode = s.mode := rfl

@[simp] theorem State.emitDiag_dot (s : State) (b : Byte) : (s.emitDiag b).dot = s.dot := rfl

@[simp] theorem State.emitDiag_fb (s : State) (b : Byte) : (s.emitDiag b).fb = s.fb := rfl

@[simp] theorem State.emitDiag_diags (s : State) (b : Byte) : (s.emitDiag b).diags = s.diags ++ [b] := rfl

@[simp] theorem State.emitDiag_frames (s : State) (b : Byte) : (s.emitDiag b).frames = s.frames := rfl

/-! ### `setR16`: no pair write touches what is no pair -/

@[simp] theorem State.setR16_ime (s : State) (p : Reg16) (v : Word) : (s.setR16 p v).ime = s.ime := by cases p <;> rfl

@[simp] theorem State.setR16_halted (s : State) (p : Reg16) (v : Word) : (s.setR16 p v).halted = s.halted := by cases p <;> rfl

@[simp] theorem State.setR16_cyc (s : State) (p : Reg16) (v : Word) : (s.setR16 p v).cyc = s.cyc := by cases p <;> rfl

@[simp] theorem State.setR16_fault (s : State) (p : Reg16) (v : Word) : (s.setR16 p v).fault = s.fault := by cases p <;> rfl

@[simp] theorem State.setR16_mem (s : State) (p : Reg16) (v : Word) : (s.setR16 p v).mem = s.mem := by cases p <;> rfl

@[simp] theorem State.setR16_divAcc (s : State) (p : Reg16) (v : Word) : (s.setR16 p v).divAcc = s.divAcc := by cases p <;> rfl

@[simp] theorem State.setR16_timaAcc (s : State) (p : Reg16) (v : Word) : (s.setR16 p v).timaAcc = s.timaAcc := by cases p <;> rfl

@[simp] theorem State.setR16_mode (s : State) (p : Reg16) (v : Word) : (s.setR16 p v).mode = s.mode := by cases p <;> rfl

@[simp] theorem State.setR16_dot (s : State) (p : Reg16) (v : Word) : (s.setR16 p v).dot = s.dot := by cases p <;> rfl

@[simp] theorem State.setR16_fb (s : State) (p : Reg16) (v : Word) : (s.setR16 p v).fb = s.fb := by cases p <;> rfl

@[simp] theorem State.setR16_diags (s : State) (p : Reg16) (v : Word) : (s.setR16 p v).diags = s.diags := by cases p <;> rfl

@[simp] theorem State.setR16_frames (s : State) (p : Reg16) (v : Word) : (s.setR16 p v).frames = s.frames := by cases p <;> rfl

@[simp] theorem State.setR16_AF_af (s : State) (v : Word) : (s.setR16 .AF v).af = v &&& 0xFFF0 := rfl

@[simp] theorem State.setR16_AF_bc (s : State) (v : Word) : (s.setR16 .AF v).bc = s.bc := rfl

@[simp] theorem State.setR16_AF_de (s : State) (v : Word) : (s.setR16 .AF v).de = s.de := rfl

@[simp] theorem State.setR16_AF_hl (s : State) (v : Word) : (s.setR16 .AF v).hl = s.hl := rfl

@[simp] theorem State.setR16_AF_sp (s : State) (v : Word) : (s.setR16 .AF v).sp = s.sp := rfl

@[simp] theorem State.setR16_AF_pc (s : State) (v : Word) : (s.setR16 .AF v).pc = s.pc := rfl

@[simp] theorem State.setR16_BC_af (s : State) (v : Word) : (s.setR16 .BC v).af = s.af := rfl

@[simp] theorem State.setR16_BC_bc (s : State) (v : Word) : (s.setR16 .BC v).bc = v := rfl

@[simp] theorem State.setR16_BC_de (s : State) (v : Word) : (s.setR16 .BC v).de = s.de := rfl

@[simp] theorem State.setR16_BC_hl (s : State) (v : Word) : (s.setR16 .BC v).hl = s.hl := rfl

@[simp] theorem State.setR16_BC_sp (s : State) (v : Word) : (s.setR16 .BC v).sp = s.sp := rfl

@[simp] theorem State.setR16_BC_pc (s : State) (v : Word) : (s.setR16 .BC v).pc = s.pc := rfl

@[simp] theorem State.setR16_DE_af (s : State) (v : Word) : (s.setR16 .DE v).af = s.af := rfl

@[simp] theorem State.setR16_DE_bc (s : State) (v : Word) : (s.setR16 .DE v).bc = s.bc := rfl

@[simp] theorem State.setR16_DE_de (s : State) (v : Word) : (s.setR16 .DE v).de = v := rfl

@[simp] theorem State.setR16_DE_hl (s : State) (v : Word) : (s.setR16 .DE v).hl = s.hl := rfl

@[simp] theorem State.setR16_DE_sp (s : State) (v : Word) : (s.setR16 .DE v).sp = s.sp := rfl

@[simp] theorem State.setR16_DE_pc (s : State) (v : Word) : (s.setR16 .DE v).pc = s.pc := rfl

@[simp] theorem State.setR16_HL_af (s : State) (v : Word) : (s.setR16 .HL v).af = s.af := rfl

@[simp] theorem State.setR16_HL_bc (s : State) (v : Word) : (s.setR16 .HL v).bc = s.bc := rfl

@[simp] theorem State.setR16_HL_de (s : State) (v : Word) : (s.setR16 .HL v).de = s.de := rfl

@[simp] theorem State.setR16_HL_hl (s : State) (v : Word) : (s.setR16 .HL v).hl = v := rfl

@[simp] theorem State.setR16_HL_sp (s : State) (v : Word) : (s.setR16 .HL v).sp = s.sp := rfl

@[simp] theorem State.setR16_HL_pc (s : State) (v : Word) : (s.setR16 .HL v).pc = s.pc := rfl

@[simp] theorem State.setR16_SP_af (s : State) (v : Word) : (s.setR16 .SP v).af = s.af := rfl

@[simp] theorem State.setR16_SP_bc (s : State) (v : Word) : (s.setR16 .SP v).bc = s.bc := rfl

@[simp] theorem State.setR16_SP_de (s : State) (v : Word) : (s.setR16 .SP v).de = s.de := rfl

@[simp] theorem State.setR16_SP_hl (s : State) (v : Word) : (s.setR16 .SP v).hl = s.hl := rfl

@[simp] theorem State.setR16_SP_sp (s : State) (v : Word) : (s.setR16 .SP v).sp = v := rfl

@[simp] theorem State.setR16_SP_pc (s : State) (v : Word) : (s.setR16 .SP v).pc = s.pc := rfl

@[simp] theorem State.setR16_PC_af (s : State) (v : Word) : (s.setR16 .PC v).af = s.af := rfl

@[simp] theorem State.setR16_PC_bc (s : State) (v : Word) : (s.setR16 .PC v).bc = s.bc := rfl

@[simp] theorem State.setR16_PC_de (s : State) (v : Word) : (s.setR16 .PC v).de = s.de := rfl

@[simp] theorem State.setR16_PC_hl (s : State) (v : Word) : (s.setR16 .PC v).hl = s.hl := rfl

@[simp] theorem State.setR16_PC_sp (s : State) (v : Word) : (s.setR16 .PC v).sp = s.sp := rfl

@[simp] theorem State.setR16_PC_pc (s : State) (v : Word) : (s.setR16 .PC v).pc = v := rfl

/-! ### `setR8` and `setFlags` -/

@[simp] theorem State.setR8_ime (s : State) (x : Reg8) (v : Byte) : (s.setR8 x v).ime = s.ime := by
  cases x <;> rfl

@[simp] theorem State.setR8_halted (s : State) (x : Reg8) (v : Byte) : (s.setR8 x v).halted = s.halted := by
  cases x <;> rfl

@[simp] theorem State.setR8_cyc (s : State) (x : Reg8) (v : Byte) : (s.setR8 x v).cyc = s.cyc := by
  cases x <;> rfl

@[simp] theorem State.setR8_fault (s : State) (x : Reg8) (v : Byte) : (s.setR8 x v).fault = s.fault := by
  cases x <;> rfl

@[simp] theorem State.setR8_mem (s : State) (x : Reg8) (v : Byte) : (s.setR8 x v).mem = s.mem := by
  cases x <;> rfl

@[simp] theorem State.setR8_divAcc (s : State) (x : Reg8) (v : Byte) : (s.setR8 x v).divAcc = s.divAcc := by
  cases x <;> rfl

@[simp] theorem State.setR8_timaAcc (s : State) (x : Reg8) (v : Byte) : (s.setR8 x v).timaAcc = s.timaAcc := by
  cases x <;> rfl

@[simp] theorem State.setR8_mode (s : State) (x : Reg8) (v : Byte) : (s.setR8 x v).mode = s.mode := by
  cases x <;> rfl

@[simp] theorem State.setR8_dot (s : State) (x : Reg8) (v : Byte) : (s.setR8 x v).dot = s.dot := by
  cases x <;> rfl

@[simp] theorem State.setR8_fb (s : State) (x : Reg8) (v : Byte) : (s.setR8 x v).fb = s.fb := by
  cases x <;> rfl

@[simp] theorem State.setR8_diags (s : State) (x : Reg8) (v : Byte) : (s.setR8 x v).diags = s.diags := by
  cases x <;> rfl

@[simp] theorem State.setR8_frames (s : State) (x : Reg8) (v : Byte) : (s.setR8 x v).frames = s.frames := by
  cases x <;> rfl

@[simp] theorem State.setR8_A_af (s : State) (v : Byte) : (s.setR8 .A v).af = mkWord v (loByte s.af) := rfl

@[simp] theorem State.setR8_A_bc (s : State) (v : Byte) : (s.setR8 .A v).bc = s.bc := rfl

@[simp] theorem State.setR8_A_de (s : State) (v : Byte) : (s.setR8 .A v).de = s.de := rfl

@[simp] theorem State.setR8_A_hl (s : State) (v : Byte) : (s.setR8 .A v).hl = s.hl := rfl

@[simp] theorem State.setR8_A_sp (s : State) (v : Byte) : (s.setR8 .A v).sp = s.sp := rfl

@[simp] theorem State.setR8_A_pc (s : State) (v : Byte) : (s.setR8 .A v).pc = s.pc := rfl

@[simp] theorem State.setR8_F_af (s : State) (v : Byte) : (s.setR8 .F v).af = mkWord (hiByte s.af) (v &&& 0xF0) := rfl

@[simp] theorem State.setR8_F_bc (s : State) (v : Byte) : (s.setR8 .F v).bc = s.bc := rfl

@[simp] theorem State.setR8_F_de (s : State) (v : Byte) : (s.setR8 .F v).de = s.de := rfl

@[simp] theorem State.setR8_F_hl (s : State) (v : Byte) : (s.setR8 .F v).hl = s.hl := rfl

@[simp] theorem State.setR8_F_sp (s : State) (v : Byte) : (s.setR8 .F v).sp = s.sp := rfl

@[simp] theorem State.setR8_F_pc (s : State) (v : Byte) : (s.setR8 .F v).pc = s.pc := rfl

@[simp] theorem State.setR8_B_af (s : State) (v : Byte) : (s.setR8 .B v).af = s.af := rfl

@[simp] theorem State.setR8_B_bc (s : State) (v : Byte) : (s.setR8 .B v).bc = mkWord v (loByte s.bc) := rfl

@[simp] theorem State.setR8_B_de (s : State) (v : Byte) : (s.setR8 .B v).de = s.de := rfl

@[simp] theorem State.setR8_B_hl (s : State) (v : Byte) : (s.setR8 .B v).hl = s.hl := rfl

@[simp] theorem State.setR8_B_sp (s : State) (v : Byte) : (s.setR8 .B v).sp = s.sp := rfl

@[simp] theorem State.setR8_B_pc (s : State) (v : Byte) : (s.setR8 .B v).pc = s.pc := rfl

@[simp] theorem State.setR8_C_af (s : State) (v : Byte) : (s.setR8 .C v).af = s.af := rfl

@[simp] theorem State.setR8_C_bc (s : State) (v : Byte) : (s.setR8 .C v).bc = mkWord (hiByte s.bc) v := rfl

@[simp] theorem State.setR8_C_de (s : State) (v : Byte) : (s.setR8 .C v).de = s.de := rfl

@[simp] theorem State.setR8_C_hl (s : State) (v : Byte) : (s.setR8 .C v).hl = s.hl := rfl

@[simp] theorem State.setR8_C_sp (s : State) (v : Byte) : (s.setR8 .C v).sp = s.sp := rfl

@[simp] theorem State.setR8_C_pc (s : State) (v : Byte) : (s.setR8 .C v).pc = s.pc := rfl

@[simp] theorem State.setR8_D_af (s : State) (v : Byte) : (s.setR8 .D v).af = s.af := rfl

@[simp] theorem State.setR8_D_bc (s : State) (v : Byte) : (s.setR8 .D v).bc = s.bc := rfl

@[simp] theorem State.setR8_D_de (s : State) (v : Byte) : (s.setR8 .D v).de = mkWord v (loByte s.de) := rfl

@[simp] theorem State.setR8_D_hl (s : State) (v : Byte) : (s.setR8 .D v).hl = s.hl := rfl

@[simp] theorem State.setR8_D_sp (s : State) (v : Byte) : (s.setR8 .D v).sp = s.sp := rfl

@[simp] theorem State.setR8_D_pc (s : State) (v : Byte) : (s.setR8 .D v).pc = s.pc := rfl

@[simp] theorem State.setR8_E_af (s : State) (v : Byte) : (s.setR8 .E v).af = s.af := rfl

@[simp] theorem State.setR8_E_bc (s : State) (v : Byte) : (s.setR8 .E v).bc = s.bc := rfl

@[simp] theorem State.setR8_E_de (s : State) (v : Byte) : (s.setR8 .E v).de = mkWord (hiByte s.de) v := rfl

@[simp] theorem State.setR8_E_hl (s : State) (v : Byte) : (s.setR8 .E v).hl = s.hl := rfl

@[simp] theorem State.setR8_E_sp (s : State) (v : Byte) : (s.setR8 .E v).sp = s.sp := rfl

@[simp] theorem State.setR8_E_pc (s : State) (v : Byte) : (s.setR8 .E v).pc = s.pc := rfl

@[simp] theorem State.setR8_H_af (s : State) (v : Byte) : (s.setR8 .H v).af = s.af := rfl

@[simp] theorem State.setR8_H_bc (s : State) (v : Byte) : (s.setR8 .H v).bc = s.bc := rfl

@[simp] theorem State.setR8_H_de (s : State) (v : Byte) : (s.setR8 .H v).de = s.de := rfl

@[simp] theorem State.setR8_H_hl (s : State) (v : Byte) : (s.setR8 .H v).hl = mkWord v (loByte s.hl) := rfl

@[simp] theorem State.setR8_H_sp (s : State) (v : Byte) : (s.setR8 .H v).sp = s.sp := rfl

@[simp] theorem State.setR8_H_pc (s : State) (v : Byte) : (s.setR8 .H v).pc = s.pc := rfl

@[simp] theorem State.setR8_L_af (s : State) (v : Byte) : (s.setR8 .L v).af = s.af := rfl

@[simp] theorem State.setR8_L_bc (s : State) (v : Byte) : (s.setR8 .L v).bc = s.bc := rfl

@[simp] theorem State.setR8_L_de (s : State) (v : Byte) : (s.setR8 .L v).de = s.de := rfl

@[simp] theorem State.setR8_L_hl (s : State) (v : Byte) : (s.setR8 .L v).hl = mkWord (hiByte s.hl) v := rfl

@[simp] theorem State.setR8_L_sp (s : State) (v : Byte) : (s.setR8 .L v).sp = s.sp := rfl

@[simp] theorem State.setR8_L_pc (s : State) (v : Byte) : (s.setR8 .L v).pc = s.pc := rfl

@[simp] theorem State.setR8_SPh_af (s : State) (v : Byte) : (s.setR8 .SPh v).af = s.af := rfl

@[simp] theorem State.setR8_SPh_bc (s : State) (v : Byte) : (s.setR8 .SPh v).bc = s.bc := rfl

@[simp] theorem State.setR8_SPh_de (s : State) (v : Byte) : (s.setR8 .SPh v).de = s.de := rfl

@[simp] theorem State.setR8_SPh_hl (s : State) (v : Byte) : (s.setR8 .SPh v).hl = s.hl := rfl

@[simp] theorem State.setR8_SPh_sp (s : State) (v : Byte) : (s.setR8 .SPh v).sp = mkWord v (loByte s.sp) := rfl

@[simp] theorem State.setR8_SPh_pc (s : State) (v : Byte) : (s.setR8 .SPh v).pc = s.pc := rfl

@[simp] theorem State.setR8_SPl_af (s : State) (v : Byte) : (s.setR8 .SPl v).af = s.af := rfl

@[simp] theorem State.setR8_SPl_bc (s : State) (v : Byte) : (s.setR8 .SPl v).bc = s.bc := rfl

@[simp] theorem State.setR8_SPl_de (s : State) (v : Byte) : (s.setR8 .SPl v).de = s.de := rfl

@[simp] theorem State.setR8_SPl_hl (s : State) (v : Byte) : (s.setR8 .SPl v).hl = s.hl := rfl

@[simp] theorem State.setR8_SPl_sp (s : State) (v : Byte) : (s.setR8 .SPl v).sp = mkWord (hiByte s.sp) v := rfl

@[simp] theorem State.setR8_SPl_pc (s : State) (v : Byte) : (s.setR8 .SPl v).pc = s.pc := rfl

@[simp] theorem State.setR8_PCh_af (s : State) (v : Byte) : (s.setR8 .PCh v).af = s.af := rfl

@[simp] theorem State.setR8_PCh_bc (s : State) (v : Byte) : (s.setR8 .PCh v).bc = s.bc := rfl

@[simp] theorem State.setR8_PCh_de (s : State) (v : Byte) : (s.setR8 .PCh v).de = s.de := rfl

@[simp] theorem State.setR8_PCh_hl (s : State) (v : Byte) : (s.setR8 .PCh v).hl = s.hl := rfl

@[simp] theorem State.setR8_PCh_sp (s : State) (v : Byte) : (s.setR8 .PCh v).sp = s.sp := rfl

@[simp] theorem State.setR8_PCh_pc (s : State) (v : Byte) : (s.setR8 .PCh v).pc = mkWord v (loByte s.pc) := rfl

@[simp] theorem State.setR8_PCl_af (s : State) (v : Byte) : (s.setR8 .PCl v).af = s.af := rfl

@[simp] theorem State.setR8_PCl_bc (s : State) (v : Byte) : (s.setR8 .PCl v).bc = s.bc := rfl

@[simp] theorem State.setR8_PCl_de (s : State) (v : Byte) : (s.setR8 .PCl v).de = s.de := rfl

@[simp] theorem State.setR8_PCl_hl (s : State) (v : Byte) : (s.setR8 .PCl v).hl = s.hl := rfl

@[simp] theorem State.setR8_PCl_sp (s : State) (v : Byte) : (s.setR8 .PCl v).sp = s.sp := rfl

@[simp] theorem State.setR8_PCl_pc (s : State) (v : Byte) : (s.setR8 .PCl v).pc = mkWord (hiByte s.pc) v := rfl

@[simp] theorem State.setFlags_bc (s : State) (z n h c : Bool) : (s.setFlags z n h c).bc = s.bc := rfl

@[simp] theorem State.setFlags_de (s : State) (z n h c : Bool) : (s.setFlags z n h c).de = s.de := rfl

@[simp] theorem State.setFlags_hl (s : State) (z n h c : Bool) : (s.setFlags z n h c).hl = s.hl := rfl

@[simp] theorem State.setFlags_sp (s : State) (z n h c : Bool) : (s.setFlags z n h c).sp = s.sp := rfl

@[simp] theorem State.setFlags_pc (s : State) (z n h c : Bool) : (s.setFlags z n h c).pc = s.pc := rfl

@[simp] theorem State.setFlags_ime (s : State) (z n h c : Bool) : (s.setFlags z n h c).ime = s.ime := rfl

@[simp] theorem State.setFlags_halted (s : State) (z n h c : Bool) : (s.setFlags z n h c).halted = s.halted := rfl

@[simp] theorem State.setFlags_cyc (s : State) (z n h c : Bool) : (s.setFlags z n h c).cyc = s.cyc := rfl

@[simp] theorem State.setFlags_fault (s : State) (z n h c : Bool) : (s.setFlags z n h c).fault = s.fault := rfl

@[simp] theorem State.setFlags_mem (s : State) (z n h c : Bool) : (s.setFlags z n h c).mem = s.mem := rfl

@[simp] theorem State.setFlags_divAcc (s : State) (z n h c : Bool) : (s.setFlags z n h c).divAcc = s.divAcc := rfl

@[simp] theorem State.setFlags_timaAcc (s : State) (z n h c : Bool) : (s.setFlags z n h c).timaAcc = s.timaAcc := rfl

@[simp] theorem State.setFlags_mode (s : State) (z n h c : Bool) : (s.setFlags z n h c).mode = s.mode := rfl

@[simp] theorem State.setFlags_dot (s : State) (z n h c : Bool) : (s.setFlags z n h c).dot = s.dot := rfl

@[simp] theorem State.setFlags_fb (s : State) (z n h c : Bool) : (s.setFlags z n h c).fb = s.fb := rfl

@[simp] theorem State.setFlags_diags (s : State) (z n h c : Bool) : (s.setFlags z n h c).diags = s.diags := rfl

@[simp] theorem State.setFlags_frames (s : State) (z n h c : Bool) : (s.setFlags z n h c).frames = s.frames := rfl

/-! ### `r16` -/

@[simp] theorem State.r16_AF (s : State) : s.r16 .AF = s.af := rfl

@[simp] theorem State.r16_BC (s : State) : s.r16 .BC = s.bc := rfl

@[simp] theorem State.r16_DE (s : State) : s.r16 .DE = s.de := rfl

@[simp] theorem State.r16_HL (s : State) : s.r16 .HL = s.hl := rfl

@[simp] theorem State.r16_SP (s : State) : s.r16 .SP = s.sp := rfl

@[simp] theorem State.r16_PC (s : State) : s.r16 .PC = s.pc := rfl

end Sys2Proof.Machine
end

