-- ==== Sys2Proof/Laws/Memory.lean ====
section
/-! SUPPORT. The laws of sparse data and of memory: a read after a write, the canonical form kept and unique, every address in one
window and readable, and which addresses share a cell. -/

namespace Sys2Proof.Machine

/-! ### Sparse data -/

section Sparse

variable {α : Type} {dflt : Nat → α}

theorem Sparse.get_insert_self (m : List (Nat × α)) (k : Nat) (v : α) : Sparse.get dflt (Sparse.insert m k v) k = v := by
  induction m with
  | nil => simp [Sparse.insert, Sparse.get]
  | cons c m ih =>
    simp only [Sparse.insert]
    split
    · simp [Sparse.get, Nat.ne_of_lt ‹_›, ih]
    · split <;> simp [Sparse.get]

theorem Sparse.get_insert_ne (m : List (Nat × α)) {k j : Nat} (v : α) (h : j ≠ k) :
    Sparse.get dflt (Sparse.insert m k v) j = Sparse.get dflt m j := by
  induction m with
  | nil => simp [Sparse.insert, Sparse.get, h.symm]
  | cons c m ih =>
    simp only [Sparse.insert]
    split
    · simp [Sparse.get, ih]
    · split
      · rename_i hc
        simp [Sparse.get, hc, h.symm]
      · simp [Sparse.get, h.symm]

theorem Sparse.get_remove_self (m : List (Nat × α)) (k : Nat) :
    Sparse.get dflt (m.filter (fun c => c.1 ≠ k)) k = dflt k := by
  induction m with
  | nil => rfl
  | cons c m ih => by_cases hc : c.1 = k <;> simp_all [Sparse.get]

theorem Sparse.get_remove_ne (m : List (Nat × α)) {k j : Nat} (h : j ≠ k) :
    Sparse.get dflt (m.filter (fun c => c.1 ≠ k)) j = Sparse.get dflt m j := by
  induction m with
  | nil => rfl
  | cons c m ih =>
    by_cases hc : c.1 = k
    · simp_all [Sparse.get, h.symm]
    · by_cases hj : c.1 = j <;> simp_all [Sparse.get]

theorem Sparse.get_eq_of_lt (m : List (Nat × α)) {k : Nat} (h : ∀ c ∈ m, k < c.1) : Sparse.get dflt m k = dflt k := by
  induction m with
  | nil => rfl
  | cons c m ih =>
    have hc := h c (by simp)
    simp [Sparse.get, Nat.ne_of_gt hc, ih (fun d hd => h d (by simp [hd]))]

theorem Sparse.mem_insert {m : List (Nat × α)} {k : Nat} {v : α} {c : Nat × α} (h : c ∈ Sparse.insert m k v) :
    c = (k, v) ∨ c ∈ m := by
  induction m with
  | nil => simpa [Sparse.insert] using h
  | cons d m ih =>
    simp only [Sparse.insert] at h
    split at h
    · rcases List.mem_cons.1 h with rfl | h
      · simp
      · rcases ih h with h | h <;> simp [h]
    · split at h
      · rcases List.mem_cons.1 h with rfl | h
        · simp
        · simp [h]
      · simpa using h

theorem Sparse.insert_pairwise {m : List (Nat × α)} (k : Nat) (v : α) (h : m.Pairwise (fun c d => c.1 < d.1)) :
    (Sparse.insert m k v).Pairwise (fun c d => c.1 < d.1) := by
  induction m with
  | nil => simp [Sparse.insert]
  | cons d m ih =>
    rw [List.pairwise_cons] at h
    simp only [Sparse.insert]
    split
    · rename_i hk
      refine List.pairwise_cons.2 ⟨fun c hc => ?_, ih h.2⟩
      rcases Sparse.mem_insert hc with rfl | hc
      · exact hk
      · exact h.1 c hc
    · split
      · rename_i hk
        exact List.pairwise_cons.2 ⟨fun c hc => hk ▸ h.1 c hc, h.2⟩
      · rename_i h1 h2
        refine List.pairwise_cons.2 ⟨fun c hc => ?_, List.pairwise_cons.2 h⟩
        rcases List.mem_cons.1 hc with rfl | hc
        · simp only; omega
        · have := h.1 c hc; simp only; omega

variable [DecidableEq α]

theorem Sparse.get_put_self (m : List (Nat × α)) (k : Nat) (v : α) : Sparse.get dflt (Sparse.put dflt m k v) k = v := by
  by_cases h : v = dflt k
  · rw [Sparse.put, if_pos h, Sparse.get_remove_self, h]
  · rw [Sparse.put, if_neg h, Sparse.get_insert_self]

theorem Sparse.get_put_ne (m : List (Nat × α)) {k j : Nat} (v : α) (h : j ≠ k) :
    Sparse.get dflt (Sparse.put dflt m k v) j = Sparse.get dflt m j := by
  by_cases hv : v = dflt k
  · rw [Sparse.put, if_pos hv, Sparse.get_remove_ne _ h]
  · rw [Sparse.put, if_neg hv, Sparse.get_insert_ne _ _ h]

theorem Sparse.get_put (m : List (Nat × α)) (k j : Nat) (v : α) :
    Sparse.get dflt (Sparse.put dflt m k v) j = if j = k then v else Sparse.get dflt m j := by
  split
  · rename_i h; rw [h, Sparse.get_put_self]
  · exact Sparse.get_put_ne _ _ ‹_›

theorem Sparse.mem_put {m : List (Nat × α)} {k : Nat} {v : α} {c : Nat × α} (h : c ∈ Sparse.put dflt m k v) :
    (c = (k, v) ∧ v ≠ dflt k) ∨ c ∈ m := by
  by_cases hv : v = dflt k
  · rw [Sparse.put, if_pos hv] at h
    exact .inr (List.mem_filter.1 h).1
  · rw [Sparse.put, if_neg hv] at h
    rcases Sparse.mem_insert h with h | h
    · exact .inl ⟨h, hv⟩
    · exact .inr h

/-- A store keeps the canonical form. -/
theorem Sparse.put_wf {m : List (Nat × α)} (k : Nat) (v : α) (h : Sparse.Wf dflt m) : Sparse.Wf dflt (Sparse.put dflt m k v) := by
  refine ⟨?_, fun c hc => ?_⟩
  · by_cases hv : v = dflt k
    · rw [Sparse.put, if_pos hv]; exact h.1.filter _
    · rw [Sparse.put, if_neg hv]; exact Sparse.insert_pairwise _ _ h.1
  · rcases Sparse.mem_put hc with ⟨rfl, hv⟩ | hc
    · exact hv
    · exact h.2 c hc

theorem Sparse.Wf.tail {c : Nat × α} {m : List (Nat × α)} (h : Sparse.Wf dflt (c :: m)) : Sparse.Wf dflt m :=
  ⟨(List.pairwise_cons.1 h.1).2, fun d hd => h.2 d (List.mem_cons_of_mem _ hd)⟩

/-- The canonical form is unique: two lists in it that read alike everywhere are equal. -/
theorem Sparse.ext {m n : List (Nat × α)} (hm : Sparse.Wf dflt m) (hn : Sparse.Wf dflt n)
    (h : ∀ k, Sparse.get dflt m k = Sparse.get dflt n k) : m = n := by
  induction m generalizing n with
  | nil =>
    cases n with
    | nil => rfl
    | cons d n =>
      have := h d.1
      simp only [Sparse.get, if_true] at this
      exact absurd this.symm (hn.2 d (by simp))
  | cons c m ih =>
    have hc := List.pairwise_cons.1 hm.1
    cases n with
    | nil =>
      have := h c.1
      simp only [Sparse.get, if_true] at this
      exact absurd this (hm.2 c (by simp))
    | cons d n =>
      have hd := List.pairwise_cons.1 hn.1
      have hkey : c.1 = d.1 := by
        rcases Nat.lt_trichotomy c.1 d.1 with hlt | heq | hgt
        · have h1 := h c.1
          rw [Sparse.get_eq_of_lt (d :: n) (by
            intro e he
            rcases List.mem_cons.1 he with rfl | he
            · exact hlt
            · exact Nat.lt_trans hlt (hd.1 e he))] at h1
          simp only [Sparse.get, if_true] at h1
          exact absurd h1 (hm.2 c (by simp))
        · exact heq
        · have h1 := h d.1
          rw [Sparse.get_eq_of_lt (c :: m) (by
            intro e he
            rcases List.mem_cons.1 he with rfl | he
            · exact hgt
            · exact Nat.lt_trans hgt (hc.1 e he))] at h1
          simp only [Sparse.get, if_true] at h1
          exact absurd h1.symm (hn.2 d (by simp))
      have hval : c.2 = d.2 := by
        have h1 := h c.1
        simpa [Sparse.get, hkey] using h1
      have htail : m = n := by
        refine ih hm.tail hn.tail (fun k => ?_)
        by_cases hk : c.1 = k
        · rw [Sparse.get_eq_of_lt m (fun e he => hk ▸ hc.1 e he), Sparse.get_eq_of_lt n (fun e he => hk ▸ hkey ▸ hd.1 e he)]
        · have h1 := h k
          simpa [Sparse.get, hk, hkey ▸ hk] using h1
      rw [htail, Prod.ext hkey hval]

theorem Sparse.put_comm {m : List (Nat × α)} (h : Sparse.Wf dflt m) {k j : Nat} (hkj : k ≠ j) (v w : α) :
    Sparse.put dflt (Sparse.put dflt m k v) j w = Sparse.put dflt (Sparse.put dflt m j w) k v := by
  refine Sparse.ext (Sparse.put_wf _ _ (Sparse.put_wf _ _ h)) (Sparse.put_wf _ _ (Sparse.put_wf _ _ h)) (fun i => ?_)
  simp only [Sparse.get_put]
  split <;> split <;> simp_all

end Sparse

/-! ### Cells -/

@[simp] theorem Memory.peek_poke_self (m : List Host.Cell) (k : Nat) (v : Byte) : Memory.peek (Memory.poke m k v) k = v :=
  Sparse.get_put_self _ _ _

theorem Memory.peek_poke_ne (m : List Host.Cell) {k j : Nat} (v : Byte) (h : j ≠ k) :
    Memory.peek (Memory.poke m k v) j = Memory.peek m j :=
  Sparse.get_put_ne _ _ h

theorem Memory.peek_poke (m : List Host.Cell) (k j : Nat) (v : Byte) :
    Memory.peek (Memory.poke m k v) j = if j = k then v else Memory.peek m j :=
  Sparse.get_put _ _ _ _

/-- A store into the cell of some address keeps memory's canonical form. -/
theorem Memory.poke_wf {m : List Host.Cell} {k : Nat} (v : Byte) (h : Memory.wf m) (hk : Memory.IsHome k) :
    Memory.wf (Memory.poke m k v) := by
  refine ⟨Sparse.put_wf _ _ h.1, fun c hc => ?_⟩
  rcases Sparse.mem_put hc with ⟨rfl, _⟩ | hc
  · exact hk
  · exact h.2 c hc

/-- Equal memories are equal data. -/
theorem Memory.ext {m n : List Host.Cell} (hm : Memory.wf m) (hn : Memory.wf n)
    (h : ∀ k, Memory.peek m k = Memory.peek n k) : m = n :=
  Sparse.ext hm.1 hn.1 h

theorem Memory.poke_comm {m : List Host.Cell} (h : Memory.wf m) {k j : Nat} (hkj : k ≠ j) (v w : Byte) :
    Memory.poke (Memory.poke m k v) j w = Memory.poke (Memory.poke m j w) k v :=
  Sparse.put_comm h.1 hkj v w

/-! ### Windows -/

theorem Memory.isHome_home (a : Word) : Memory.IsHome (Memory.home a) := by
  have := a.isLt
  unfold Memory.IsHome Memory.home
  split <;> omega

theorem Memory.home_of_not_echo {a : Word} (h : ¬(0xE000 ≤ a.toNat ∧ a.toNat < 0xFE00)) : Memory.home a = a.toNat :=
  if_neg h

theorem Memory.home_of_echo {a : Word} (h : 0xE000 ≤ a.toNat ∧ a.toNat < 0xFE00) : Memory.home a = a.toNat - 0x2000 :=
  if_pos h

/-- Every cell that some address reaches is reached under its own key. -/
theorem Memory.home_ofNat {k : Nat} (h : Memory.IsHome k) : Memory.home (BitVec.ofNat 16 k) = k := by
  have hk : (BitVec.ofNat 16 k).toNat = k := by
    rw [BitVec.toNat_ofNat]; exact Nat.mod_eq_of_lt (by rcases h with h | h <;> omega)
  rw [Memory.home_of_not_echo (by rw [hk]; rcases h with h | h <;> omega), hk]

/-- The window of an address, and with it its cell: no address lies outside all windows (R60). -/
theorem Window.ofAddr_cases (a : Word) :
    (Window.ofAddr a = some .rom ∧ a.toNat < 0x8000) ∨
    (Window.ofAddr a = some .vram ∧ 0x8000 ≤ a.toNat ∧ a.toNat < 0xA000) ∨
    (Window.ofAddr a = some .xram ∧ 0xA000 ≤ a.toNat ∧ a.toNat < 0xC000) ∨
    (Window.ofAddr a = some .wram ∧ 0xC000 ≤ a.toNat ∧ a.toNat < 0xE000) ∨
    (Window.ofAddr a = some .echo ∧ 0xE000 ≤ a.toNat ∧ a.toNat < 0xFE00) ∨
    (Window.ofAddr a = some .oam ∧ 0xFE00 ≤ a.toNat ∧ a.toNat < 0xFF00) ∨
    (Window.ofAddr a = some .io ∧ 0xFF00 ≤ a.toNat ∧ a.toNat < 0xFF80) ∨
    (Window.ofAddr a = some .hram ∧ 0xFF80 ≤ a.toNat) := by
  have := a.isLt
  simp only [Window.ofAddr]
  by_cases h1 : a.toNat < 0x8000
  · simp [h1]
  by_cases h2 : a.toNat < 0xA000
  · simp [h1, h2]; omega
  by_cases h3 : a.toNat < 0xC000
  · simp [h1, h2, h3]; omega
  by_cases h4 : a.toNat < 0xE000
  · simp [h1, h2, h3, h4]; omega
  by_cases h5 : a.toNat < 0xFE00
  · simp [h1, h2, h3, h4, h5]; omega
  by_cases h6 : a.toNat < 0xFF00
  · simp [h1, h2, h3, h4, h5, h6]; omega
  by_cases h7 : a.toNat < 0xFF80
  · simp [h1, h2, h3, h4, h5, h6, h7]; omega
  · simp [h1, h2, h3, h4, h5, h6, h7]; omega

/-- A bus read answers the byte of the address's cell, at every address (R60, R61). -/
theorem Memory.busRead_eq (m : List Host.Cell) (a : Word) : Memory.busRead m a = some (Memory.peek m (Memory.home a)) := by
  rcases Window.ofAddr_cases a with ⟨w, h⟩ | ⟨w, h⟩ | ⟨w, h⟩ | ⟨w, h⟩ | ⟨w, h⟩ | ⟨w, h⟩ | ⟨w, h⟩ | ⟨w, h⟩ <;>
    rw [Memory.busRead, w]
  all_goals first
    | (rw [Memory.home_of_not_echo (by omega)])
    | (rw [Memory.home_of_echo (by omega)])

end Sys2Proof.Machine
end

