-- ==== Sys2Proof/Laws/Ops.lean ====
section
/-! SUPPORT. What each shared operation of Machine/Ops.lean, Machine/Flags.lean and Machine/Operands.lean does, said once. -/

namespace Sys2Proof.Machine

/-! ### Words and bytes -/

@[simp] theorem hiByte_mkWord (h l : Byte) : hiByte (mkWord h l) = h := by
  apply BitVec.eq_of_toNat_eq
  simp only [hiByte, mkWord, BitVec.extractLsb'_toNat, BitVec.toNat_append, Nat.shiftRight_eq_div_pow]
  rw [← Nat.shiftLeft_add_eq_or_of_lt l.isLt, Nat.shiftLeft_eq]
  have := h.isLt; have := l.isLt
  omega

@[simp] theorem loByte_mkWord (h l : Byte) : loByte (mkWord h l) = l := by
  apply BitVec.eq_of_toNat_eq
  simp only [loByte, mkWord, BitVec.extractLsb'_toNat, BitVec.toNat_append, Nat.shiftRight_eq_div_pow]
  rw [← Nat.shiftLeft_add_eq_or_of_lt l.isLt, Nat.shiftLeft_eq]
  have := h.isLt; have := l.isLt
  omega

theorem mkWord_toNat (h l : Byte) : (mkWord h l).toNat = h.toNat * 256 + l.toNat := by
  simp only [mkWord, BitVec.toNat_append]
  rw [← Nat.shiftLeft_add_eq_or_of_lt l.isLt, Nat.shiftLeft_eq]

theorem hiByte_toNat (w : Word) : (hiByte w).toNat = w.toNat / 256 := by
  have := w.isLt
  simp only [hiByte, BitVec.extractLsb'_toNat, Nat.shiftRight_eq_div_pow]
  omega

theorem loByte_toNat (w : Word) : (loByte w).toNat = w.toNat % 256 := by
  simp [loByte, BitVec.extractLsb'_toNat]

@[simp] theorem mkWord_hiByte_loByte (w : Word) : mkWord (hiByte w) (loByte w) = w := by
  apply BitVec.eq_of_toNat_eq
  rw [mkWord_toNat, hiByte_toNat, loByte_toNat]
  omega

theorem loByte_and_low (w : Word) : (loByte w &&& 0x0F = 0) ↔ (w &&& 0x000F = 0) := by
  have h15 : ∀ n : Nat, n &&& 15 = n % 16 := fun n => Nat.and_two_pow_sub_one_eq_mod n 4
  rw [← BitVec.toNat_inj, ← BitVec.toNat_inj, BitVec.toNat_and, BitVec.toNat_and, loByte_toNat]
  have h1 : BitVec.toNat (0x0F : Byte) = 15 := rfl
  have h2 : BitVec.toNat (0x000F : Word) = 15 := rfl
  rw [h1, h2, h15, h15]
  simp only [BitVec.ofNat_eq_ofNat, BitVec.toNat_ofNat, Nat.zero_mod]
  omega

/-- What a write to AF keeps of a word (R23). -/
theorem mkWord_and_mask (h l : Byte) : mkWord h l &&& 0xFFF0 = mkWord h (l &&& 0xF0) := by
  apply BitVec.eq_of_getLsbD_eq
  intro i hi
  have hm : ∀ i : Fin 16, (0xFFF0#16).getLsbD i.val = if i.val < 8 then (0xF0#8).getLsbD i.val else true := by decide
  have := hm ⟨i, hi⟩
  simp only [mkWord, BitVec.getLsbD_and, BitVec.getLsbD_append]
  rw [show (0xFFF0 : Word) = 0xFFF0#16 from rfl, this]
  by_cases h8 : i < 8 <;> simp [h8]

/-! ### Registers -/

@[simp] theorem State.r8_A (s : State) : s.r8 .A = hiByte s.af := rfl
@[simp] theorem State.r8_F (s : State) : s.r8 .F = loByte s.af := rfl
@[simp] theorem State.r8_B (s : State) : s.r8 .B = hiByte s.bc := rfl
@[simp] theorem State.r8_C (s : State) : s.r8 .C = loByte s.bc := rfl
@[simp] theorem State.r8_D (s : State) : s.r8 .D = hiByte s.de := rfl
@[simp] theorem State.r8_E (s : State) : s.r8 .E = loByte s.de := rfl
@[simp] theorem State.r8_H (s : State) : s.r8 .H = hiByte s.hl := rfl
@[simp] theorem State.r8_L (s : State) : s.r8 .L = loByte s.hl := rfl
@[simp] theorem State.r8_SPh (s : State) : s.r8 .SPh = hiByte s.sp := rfl
@[simp] theorem State.r8_SPl (s : State) : s.r8 .SPl = loByte s.sp := rfl
@[simp] theorem State.r8_PCh (s : State) : s.r8 .PCh = hiByte s.pc := rfl
@[simp] theorem State.r8_PCl (s : State) : s.r8 .PCl = loByte s.pc := rfl

/-- A byte write is read back, but for the low bits of F. -/
theorem State.r8_setR8_self (s : State) (x : Reg8) (v : Byte) :
    (s.setR8 x v).r8 x = if x = .F then v &&& 0xF0 else v := by
  cases x <;> simp

/-- A byte write leaves every other half alone, its own pair's too. -/
theorem State.r8_setR8_ne (s : State) {x y : Reg8} (v : Byte) (h : y ≠ x) : (s.setR8 x v).r8 y = s.r8 y := by
  cases x <;> cases y <;> first | (exact absurd rfl h) | simp

/-- A pair write leaves every half of another pair alone. -/
theorem State.r8_setR16_ne (s : State) {p : Reg16} {y : Reg8} (v : Word) (h : y.pair ≠ p) : (s.setR16 p v).r8 y = s.r8 y := by
  cases p <;> cases y <;> first | (exact absurd rfl h) | simp

/-- Reading a register looks at the pairs alone. -/
theorem State.r8_congr {s t : State} (x : Reg8) (h1 : t.af = s.af) (h2 : t.bc = s.bc) (h3 : t.de = s.de) (h4 : t.hl = s.hl)
    (h5 : t.sp = s.sp) (h6 : t.pc = s.pc) : t.r8 x = s.r8 x := by
  cases x <;> simp [h1, h2, h3, h4, h5, h6]

/-! ### Flags -/

theorem flagsByte_and_high (z n h c : Bool) : flagsByte z n h c &&& 0xF0 = flagsByte z n h c := by
  cases z <;> cases n <;> cases h <;> cases c <;> decide

@[simp] theorem State.setFlags_af (s : State) (z n h c : Bool) : (s.setFlags z n h c).af = mkWord (hiByte s.af) (flagsByte z n h c) := by
  rw [State.setFlags, State.setR8_F_af, flagsByte_and_high]

theorem State.flag_eq (s : State) (f : Flag) : s.flag f = (loByte s.af).getLsbD f.bit := rfl

@[simp] theorem State.flag_setFlags_Z (s : State) (z n h c : Bool) : (s.setFlags z n h c).flag .Z = z := by
  simp only [State.flag_eq, State.setFlags_af, loByte_mkWord]
  cases z <;> cases n <;> cases h <;> cases c <;> decide

@[simp] theorem State.flag_setFlags_N (s : State) (z n h c : Bool) : (s.setFlags z n h c).flag .N = n := by
  simp only [State.flag_eq, State.setFlags_af, loByte_mkWord]
  cases z <;> cases n <;> cases h <;> cases c <;> decide

@[simp] theorem State.flag_setFlags_H (s : State) (z n h c : Bool) : (s.setFlags z n h c).flag .H = h := by
  simp only [State.flag_eq, State.setFlags_af, loByte_mkWord]
  cases z <;> cases n <;> cases h <;> cases c <;> decide

@[simp] theorem State.flag_setFlags_C (s : State) (z n h c : Bool) : (s.setFlags z n h c).flag .C = c := by
  simp only [State.flag_eq, State.setFlags_af, loByte_mkWord]
  cases z <;> cases n <;> cases h <;> cases c <;> decide

/-- Writing the flags leaves every register but F alone. -/
theorem State.r8_setFlags_ne (s : State) (z n h c : Bool) {x : Reg8} (hx : x ≠ .F) : (s.setFlags z n h c).r8 x = s.r8 x := by
  cases x <;> first | (exact absurd rfl hx) | simp

/-! ### Reading through the bus -/

@[simp] theorem State.busRead_eq (s : State) (a : Word) : Memory.busRead s.mem a = some (s.byte a) :=
  Memory.busRead_eq s.mem a

/-- A read goes on with the byte at the address: no read is a fault. -/
@[simp] theorem State.readThen_eq (s : State) (a : Word) (k : Byte → State) : s.readThen a k = k (s.byte a) := by
  rw [State.readThen, State.busRead_eq]

@[simp] theorem State.readWordThen_eq (s : State) (a : Word) (k : Word → State) :
    s.readWordThen a k = k (mkWord (s.byte (a + 1)) (s.byte a)) := by
  simp [State.readWordThen]

@[simp] theorem State.popThen_eq (s : State) (k : Word → State → State) :
    s.popThen k = k (mkWord (s.byte (s.sp + 1)) (s.byte s.sp)) { s with sp := s.sp + 2 } := by
  simp [State.popThen]

/-- The byte of an operand. -/
def State.operandByte (s : State) : Operand8 → Byte
  | .reg r => s.r8 r
  | .mem a => s.byte a
  | .imm n => n

@[simp] theorem State.operandByte_reg (s : State) (r : Reg8) : s.operandByte (.reg r) = s.r8 r := rfl
@[simp] theorem State.operandByte_mem (s : State) (a : Word) : s.operandByte (.mem a) = s.byte a := rfl
@[simp] theorem State.operandByte_imm (s : State) (n : Byte) : s.operandByte (.imm n) = n := rfl

@[simp] theorem State.getThen_eq (s : State) (o : Operand8) (k : Byte → State) : s.getThen o k = k (s.operandByte o) := by
  cases o <;> simp [State.getThen, State.operandByte]

/-- The bytes of memory depend on `mem` alone. -/
theorem State.byte_congr {s t : State} (a : Word) (h : t.mem = s.mem) : t.byte a = s.byte a := by
  rw [State.byte, State.byte, h]

@[simp] theorem State.byte_advance (s : State) (n : Nat) (a : Word) : (s.advance n).byte a = s.byte a := rfl
@[simp] theorem State.byte_setR8 (s : State) (x : Reg8) (v : Byte) (a : Word) : (s.setR8 x v).byte a = s.byte a :=
  State.byte_congr a (by simp)
@[simp] theorem State.byte_setR16 (s : State) (p : Reg16) (v : Word) (a : Word) : (s.setR16 p v).byte a = s.byte a :=
  State.byte_congr a (by simp)
@[simp] theorem State.byte_setFlags (s : State) (z n h c : Bool) (a : Word) : (s.setFlags z n h c).byte a = s.byte a :=
  State.byte_congr a (by simp)

theorem State.dev_congr {s t : State} (k : Nat) (h : t.mem = s.mem) : t.dev k = s.dev k := by
  rw [State.dev, State.dev, h]

theorem State.dev_devWrite (s : State) (k j : Nat) (v : Byte) : (s.devWrite k v).dev j = if j = k then v else s.dev j :=
  Memory.peek_poke _ _ _ _

theorem State.byte_devWrite (s : State) (k : Nat) (v : Byte) (a : Word) :
    (s.devWrite k v).byte a = if Memory.home a = k then v else s.byte a :=
  Memory.peek_poke _ _ _ _

theorem State.byte_eq_dev (s : State) (a : Word) : s.byte a = s.dev (Memory.home a) := rfl

/-! ### Writing through the bus -/

/-- Everything a bus write can do: nothing; a store of the byte, in IF with bits 7..5 set; a store of 0x81 with an event. -/
theorem State.write_cases (s : State) (a : Word) (v : Byte) :
    (s.write a v = s ∧ (a.toNat < 0x8000 ∨ a = 0xFF44)) ∨
    (s.write a v = s.devWrite 0xFF0F (v ||| 0xE0) ∧ a = 0xFF0F) ∨
    (s.write a v = (s.devWrite 0xFF02 v).emitDiag (s.byte 0xFF01) ∧ a = 0xFF02 ∧ v = 0x81) ∨
    (s.write a v = s.devWrite (Memory.home a) v ∧ 0x8000 ≤ a.toNat ∧ a ≠ 0xFF44 ∧ a ≠ 0xFF0F ∧ ¬(a = 0xFF02 ∧ v = 0x81)) := by
  have hne : ∀ n : Nat, n < 65536 → a.toNat ≠ n → a ≠ BitVec.ofNat 16 n := by
    intro n hn h he
    rw [he, BitVec.toNat_ofNat] at h
    exact h (Nat.mod_eq_of_lt hn)
  have heq : ∀ n : Nat, a.toNat = n → a = BitVec.ofNat 16 n := by
    intro n h
    rw [← h, BitVec.ofNat_toNat, BitVec.setWidth_eq]
  rcases Window.ofAddr_cases a with ⟨w, h⟩ | ⟨w, h⟩ | ⟨w, h⟩ | ⟨w, h⟩ | ⟨w, h⟩ | ⟨w, h⟩ | ⟨w, h⟩ | ⟨w, h⟩ <;>
    simp only [State.write, w]
  case inl => exact .inl ⟨trivial, .inl h⟩
  case inr.inr.inr.inr.inr.inr.inl =>
    unfold State.ioWrite
    by_cases h1 : a.toNat = lyAddr
    · rw [if_pos h1]; exact .inl ⟨rfl, .inr (heq _ h1)⟩
    rw [if_neg h1]
    by_cases h2 : a.toNat = ifAddr
    · rw [if_pos h2]; exact .inr (.inl ⟨by rw [h2]; rfl, heq _ h2⟩)
    rw [if_neg h2]
    by_cases h3 : a.toNat = scAddr
    · rw [if_pos h3]
      by_cases h4 : v = 0x81
      · rw [if_pos h4, h3]
        refine .inr (.inr (.inl ⟨?_, heq _ h3, h4⟩))
        rw [State.dev_devWrite]
        rfl
      · rw [if_neg h4]
        refine .inr (.inr (.inr ⟨?_, by omega, hne _ (by decide) h1, hne _ (by decide) h2, fun hc => h4 hc.2⟩))
        rw [Memory.home_of_not_echo (by omega)]
    · rw [if_neg h3]
      refine .inr (.inr (.inr ⟨?_, by omega, hne _ (by decide) h1, hne _ (by decide) h2, fun hc => hne _ (by decide) h3 hc.1⟩))
      rw [Memory.home_of_not_echo (by omega)]
  all_goals
    refine .inr (.inr (.inr ⟨?_, by omega, hne 0xFF44 (by decide) (by omega), hne 0xFF0F (by decide) (by omega),
      fun hc => hne 0xFF02 (by decide) (by omega) hc.1⟩))
    first
      | rw [Memory.home_of_not_echo (by omega)]
      | rw [Memory.home_of_echo (by omega)]

/-- A bus write touches memory and the Diagnostic trace, nothing else. -/
theorem State.write_eq (s : State) (a : Word) (v : Byte) :
    s.write a v = { s with mem := (s.write a v).mem, diags := (s.write a v).diags } := by
  rcases State.write_cases s a v with ⟨h, _⟩ | ⟨h, _⟩ | ⟨h, _⟩ | ⟨h, _⟩ <;> rw [h] <;> rfl

@[simp] theorem State.write_af (s : State) (a : Word) (v : Byte) : (s.write a v).af = s.af := by rw [State.write_eq]
@[simp] theorem State.write_bc (s : State) (a : Word) (v : Byte) : (s.write a v).bc = s.bc := by rw [State.write_eq]
@[simp] theorem State.write_de (s : State) (a : Word) (v : Byte) : (s.write a v).de = s.de := by rw [State.write_eq]
@[simp] theorem State.write_hl (s : State) (a : Word) (v : Byte) : (s.write a v).hl = s.hl := by rw [State.write_eq]
@[simp] theorem State.write_sp (s : State) (a : Word) (v : Byte) : (s.write a v).sp = s.sp := by rw [State.write_eq]
@[simp] theorem State.write_pc (s : State) (a : Word) (v : Byte) : (s.write a v).pc = s.pc := by rw [State.write_eq]
@[simp] theorem State.write_ime (s : State) (a : Word) (v : Byte) : (s.write a v).ime = s.ime := by rw [State.write_eq]
@[simp] theorem State.write_halted (s : State) (a : Word) (v : Byte) : (s.write a v).halted = s.halted := by rw [State.write_eq]
@[simp] theorem State.write_cyc (s : State) (a : Word) (v : Byte) : (s.write a v).cyc = s.cyc := by rw [State.write_eq]
@[simp] theorem State.write_fault (s : State) (a : Word) (v : Byte) : (s.write a v).fault = s.fault := by rw [State.write_eq]
@[simp] theorem State.write_divAcc (s : State) (a : Word) (v : Byte) : (s.write a v).divAcc = s.divAcc := by rw [State.write_eq]
@[simp] theorem State.write_timaAcc (s : State) (a : Word) (v : Byte) : (s.write a v).timaAcc = s.timaAcc := by rw [State.write_eq]
@[simp] theorem State.write_mode (s : State) (a : Word) (v : Byte) : (s.write a v).mode = s.mode := by rw [State.write_eq]
@[simp] theorem State.write_dot (s : State) (a : Word) (v : Byte) : (s.write a v).dot = s.dot := by rw [State.write_eq]
@[simp] theorem State.write_fb (s : State) (a : Word) (v : Byte) : (s.write a v).fb = s.fb := by rw [State.write_eq]
@[simp] theorem State.write_frames (s : State) (a : Word) (v : Byte) : (s.write a v).frames = s.frames := by rw [State.write_eq]

/-- What every byte reads as after a bus write. -/
theorem State.byte_write (s : State) (a : Word) (v : Byte) (b : Word) :
    (s.write a v).byte b =
      if Memory.home b = Memory.home a then
        (if a.toNat < 0x8000 ∨ a = 0xFF44 then s.byte b else if a = 0xFF0F then v ||| 0xE0 else v)
      else s.byte b := by
  have key : ∀ k : Word, Memory.home k = k.toNat → ∀ u : Byte,
      (s.devWrite k.toNat u).byte b = if Memory.home b = Memory.home k then u else s.byte b := by
    intro k hk u; rw [State.byte_devWrite, hk]
  rcases State.write_cases s a v with ⟨h, ha⟩ | ⟨h, ha⟩ | ⟨h, ha, hv⟩ | ⟨h, h1, h2, h3, _⟩ <;> rw [h]
  · rw [if_pos ha, ite_self]
  · subst ha
    rw [show (0xFF0F : Nat) = (0xFF0F : Word).toNat from rfl, key _ (by decide)]
    simp
  · subst ha
    rw [State.byte_congr (t := (s.devWrite 0xFF02 v).emitDiag (s.byte 0xFF01)) (s := s.devWrite 0xFF02 v) b rfl,
      show (0xFF02 : Nat) = (0xFF02 : Word).toNat from rfl, key _ (by decide)]
    simp
  · rw [State.byte_devWrite]
    have : ¬(a.toNat < 0x8000 ∨ a = 0xFF44) := by
      rintro (h | h)
      · omega
      · exact h2 h
    rw [if_neg this, if_neg h3]

/-- The Diagnostic events after a bus write. -/
theorem State.diags_write (s : State) (a : Word) (v : Byte) :
    (s.write a v).diags = if a = 0xFF02 ∧ v = 0x81 then s.diags ++ [s.byte 0xFF01] else s.diags := by
  rcases State.write_cases s a v with ⟨h, ha⟩ | ⟨h, ha⟩ | ⟨h, ha, hv⟩ | ⟨h, h1, h2, h3, h4⟩ <;> rw [h]
  · have : ¬(a = 0xFF02 ∧ v = 0x81) := by
      rintro ⟨rfl, _⟩
      rcases ha with ha | ha
      · exact absurd ha (by decide)
      · exact absurd ha (by decide)
    rw [if_neg this]
  · have : ¬(a = 0xFF02 ∧ v = 0x81) := by
      rintro ⟨rfl, _⟩
      exact absurd ha (by decide)
    rw [if_neg this]; rfl
  · rw [if_pos ⟨ha, hv⟩]; rfl
  · rw [if_neg h4]; rfl

/-- A bus write keeps memory's canonical form. -/
theorem State.write_wf {s : State} (a : Word) (v : Byte) (h : Memory.wf s.mem) : Memory.wf (s.write a v).mem := by
  rcases State.write_cases s a v with ⟨h', _⟩ | ⟨h', _⟩ | ⟨h', _⟩ | ⟨h', _⟩ <;> rw [h']
  · exact h
  · exact Memory.poke_wf _ h (by decide)
  · exact Memory.poke_wf _ h (by decide)
  · exact Memory.poke_wf _ h (Memory.isHome_home a)

/-- A bus write never changes the scanline register (R72). -/
theorem State.write_ly (s : State) (a : Word) (v : Byte) : (s.write a v).dev lyAddr = s.dev lyAddr := by
  have hb := State.byte_write s a v 0xFF44
  change (s.write a v).dev lyAddr = _ at hb
  rw [hb]
  split
  · rename_i hh
    have : a = 0xFF44 := by
      have h0 : Memory.home 0xFF44 = 0xFF44 := by decide
      rw [h0] at hh
      apply BitVec.eq_of_toNat_eq
      by_cases he : 0xE000 ≤ a.toNat ∧ a.toNat < 0xFE00
      · rw [Memory.home_of_echo he] at hh; omega
      · rw [Memory.home_of_not_echo he] at hh; exact hh.symm
    simp [this]; rfl
  · rfl

/-- A bus write never changes the cartridge image (R65). -/
theorem State.write_rom (s : State) (a : Word) (v : Byte) {k : Nat} (hk : k < 0x8000) : (s.write a v).dev k = s.dev k := by
  rcases State.write_cases s a v with ⟨h', _⟩ | ⟨h', _⟩ | ⟨h', _⟩ | ⟨h', h1, _⟩ <;> rw [h']
  · rw [State.dev_devWrite, if_neg (by omega)]
  · change (s.devWrite 0xFF02 v).dev k = _
    rw [State.dev_devWrite, if_neg (by omega)]
  · rw [State.dev_devWrite, if_neg]
    unfold Memory.home
    split <;> omega

/-- A bus write keeps bits 7..5 of IF (R41, R73). -/
theorem State.write_if_high {s : State} (a : Word) (v : Byte) (h : s.dev ifAddr &&& 0xE0 = 0xE0) :
    (s.write a v).dev ifAddr &&& 0xE0 = 0xE0 := by
  rcases State.write_cases s a v with ⟨h', _⟩ | ⟨h', _⟩ | ⟨h', _⟩ | ⟨h', h1, h2, h3, _⟩ <;> rw [h']
  · exact h
  · rw [State.dev_devWrite, if_pos (by rfl)]
    apply BitVec.eq_of_getLsbD_eq
    intro i hi
    simp only [BitVec.getLsbD_and, BitVec.getLsbD_or]
    cases v.getLsbD i <;> simp
  · change (s.devWrite 0xFF02 v).dev ifAddr &&& 0xE0 = 0xE0
    rw [State.dev_devWrite, if_neg (by decide)]
    exact h
  · rw [State.dev_devWrite, if_neg]
    · exact h
    · intro hh
      apply h3
      apply BitVec.eq_of_toNat_eq
      by_cases he : 0xE000 ≤ a.toNat ∧ a.toNat < 0xFE00
      · rw [Memory.home_of_echo he] at hh; simp only [ifAddr] at hh; omega
      · rw [Memory.home_of_not_echo he] at hh; exact hh.symm

/-! ### Word writes and the stack -/

theorem State.writeWord_eq (s : State) (a v : Word) :
    s.writeWord a v = { s with mem := (s.writeWord a v).mem, diags := (s.writeWord a v).diags } := by
  unfold State.writeWord
  rw [State.write_eq, State.write_eq s a]

theorem State.push16_eq (s : State) (v : Word) :
    s.push16 v = { s with sp := s.sp - 2, mem := (s.push16 v).mem, diags := (s.push16 v).diags } := by
  unfold State.push16
  rw [State.writeWord_eq]

/-- Two different addresses next to each other are different cells. -/
theorem Memory.home_succ_ne (a : Word) : Memory.home (a + 1) ≠ Memory.home a := by
  have h := a.isLt
  have h1 : (a + 1).toNat = (a.toNat + 1) % 65536 := by simp [BitVec.toNat_add]
  unfold Memory.home
  split <;> split <;> omega

/-- Whether two addresses are one cell: the same address, or a work-RAM address and its echo (R69). -/
theorem Memory.home_eq_iff (a b : Word) :
    Memory.home b = Memory.home a ↔
      b = a ∨ (0xC000 ≤ a.toNat ∧ a.toNat < 0xDE00 ∧ b.toNat = a.toNat + 0x2000) ∨
        (0xC000 ≤ b.toNat ∧ b.toNat < 0xDE00 ∧ a.toNat = b.toNat + 0x2000) := by
  have ha := a.isLt
  have hb := b.isLt
  have heq : b = a ↔ b.toNat = a.toNat := ⟨fun h => h ▸ rfl, BitVec.eq_of_toNat_eq⟩
  rw [heq]
  unfold Memory.home
  split <;> split <;> omega

theorem State.writeWord_wf {s : State} (a v : Word) (h : Memory.wf s.mem) : Memory.wf (s.writeWord a v).mem :=
  State.write_wf _ _ (State.write_wf _ _ h)

theorem State.push16_wf {s : State} (v : Word) (h : Memory.wf s.mem) : Memory.wf (s.push16 v).mem :=
  State.writeWord_wf _ _ h

/-! ### Storing into an operand -/

theorem State.setOperand_wf {s : State} (o : Operand8) (v : Byte) (h : Memory.wf s.mem) : Memory.wf (s.setOperand o v).mem := by
  cases o with
  | reg r => simpa [State.setOperand] using h
  | mem a => exact State.write_wf _ _ h
  | imm n => exact h

end Sys2Proof.Machine
end

