-- ==== Sys2Proof/Laws/Devices.lean ====
section
/-! SUPPORT. What the timer, the graphics unit and the interrupt dispatch can change, one lemma per operation, and what fetch reads. -/

namespace Sys2Proof.Machine

/-- A device store changes memory alone. -/
theorem State.devWrite_eq (s : State) (k : Nat) (v : Byte) : s.devWrite k v = { s with mem := (s.devWrite k v).mem } := rfl

theorem State.devWrite_wf {s : State} {k : Nat} (v : Byte) (h : Memory.wf s.mem) (hk : Memory.IsHome k) : Memory.wf (s.devWrite k v).mem :=
  Memory.poke_wf v h hk

/-! ### The timer -/

/-- One DIV increment: the accumulator, and the cell of DIV. -/
theorem divTick_eq (s : State) : divTick s = { s with divAcc := s.divAcc - 256, mem := (divTick s).mem } := rfl

theorem divTick_dev (s : State) (k : Nat) : (divTick s).dev k = if k = divAddr then s.dev divAddr + 1 else s.dev k :=
  Memory.peek_poke s.mem divAddr k (Memory.peek s.mem divAddr + 1)

theorem divTick_wf {s : State} (h : Memory.wf s.mem) : Memory.wf (divTick s).mem := Memory.poke_wf _ h (by decide)

theorem divLoop_eq (n : Nat) (s : State) : divLoop n s = { s with divAcc := (divLoop n s).divAcc, mem := (divLoop n s).mem } := by
  induction n generalizing s with
  | zero => rfl
  | succ n ih =>
    unfold divLoop
    split
    · rw [ih, divTick_eq]
    · rfl

theorem divLoop_dev_ne (n : Nat) (s : State) {k : Nat} (hk : k ≠ divAddr) : (divLoop n s).dev k = s.dev k := by
  induction n generalizing s with
  | zero => rfl
  | succ n ih =>
    unfold divLoop
    split
    · rw [ih, divTick_dev, if_neg hk]
    · rfl

theorem divLoop_wf (n : Nat) {s : State} (h : Memory.wf s.mem) : Memory.wf (divLoop n s).mem := by
  induction n generalizing s with
  | zero => exact h
  | succ n ih =>
    unfold divLoop
    split
    · exact ih (divTick_wf h)
    · exact h

/-- With enough fuel the divider's loop ends below 256. -/
theorem divLoop_lt (n : Nat) (s : State) (h : s.divAcc < n * 256 + 256) : (divLoop n s).divAcc < 256 := by
  induction n generalizing s with
  | zero => simpa [divLoop] using h
  | succ n ih =>
    unfold divLoop
    split
    · exact ih _ (by rw [divTick_eq]; simp only; omega)
    · omega

/-- One TIMA increment: the accumulator, and the cells of TIMA and IF. -/
theorem timaTick_eq (th : Nat) (s : State) : timaTick th s = { s with timaAcc := s.timaAcc - th, mem := (timaTick th s).mem } := by
  unfold timaTick
  dsimp only
  split <;> rfl

theorem timaTick_dev (th : Nat) (s : State) (k : Nat) :
    (timaTick th s).dev k =
      if s.dev timaAddr = 0xFF then
        if k = ifAddr then s.dev ifAddr ||| 0x04 else if k = timaAddr then s.dev tmaAddr else s.dev k
      else if k = timaAddr then s.dev timaAddr + 1 else s.dev k := by
  have hd : ∀ j, ({ s with timaAcc := s.timaAcc - th } : State).dev j = s.dev j := fun _ => rfl
  unfold timaTick
  simp only [hd]
  split
  · rw [State.dev_devWrite]
    split
    · rw [State.dev_devWrite, if_neg (by decide), hd]
    · rw [State.dev_devWrite, hd]
  · rw [State.dev_devWrite, hd]

theorem timaTick_wf (th : Nat) {s : State} (h : Memory.wf s.mem) : Memory.wf (timaTick th s).mem := by
  have h' : Memory.wf ({ s with timaAcc := s.timaAcc - th } : State).mem := h
  unfold timaTick
  dsimp only
  split
  · exact State.devWrite_wf _ (State.devWrite_wf _ h' (by decide)) (by decide)
  · exact State.devWrite_wf _ h' (by decide)

theorem timaLoop_eq (th n : Nat) (s : State) :
    timaLoop th n s = { s with timaAcc := (timaLoop th n s).timaAcc, mem := (timaLoop th n s).mem } := by
  induction n generalizing s with
  | zero => rfl
  | succ n ih =>
    unfold timaLoop
    split
    · rw [ih, timaTick_eq]
    · rfl

theorem timaLoop_dev_ne (th n : Nat) (s : State) {k : Nat} (h1 : k ≠ timaAddr) (h2 : k ≠ ifAddr) :
    (timaLoop th n s).dev k = s.dev k := by
  induction n generalizing s with
  | zero => rfl
  | succ n ih =>
    unfold timaLoop
    split
    · rw [ih, timaTick_dev]; simp [h1, h2]
    · rfl

theorem timaLoop_wf (th n : Nat) {s : State} (h : Memory.wf s.mem) : Memory.wf (timaLoop th n s).mem := by
  induction n generalizing s with
  | zero => exact h
  | succ n ih =>
    unfold timaLoop
    split
    · exact ih (timaTick_wf th h)
    · exact h

/-- With enough fuel the counter's loop ends at the threshold or below. -/
theorem timaLoop_le (th n : Nat) (s : State) (hth : 0 < th) (h : s.timaAcc ≤ n + th) : (timaLoop th n s).timaAcc ≤ th := by
  induction n generalizing s with
  | zero => simpa [timaLoop] using h
  | succ n ih =>
    unfold timaLoop
    split
    · exact ih _ (by rw [timaTick_eq]; simp only; omega)
    · omega

theorem timaThreshold_pos (tac : Byte) : 0 < timaThreshold tac ∧ timaThreshold tac ≤ 1024 := by
  unfold timaThreshold
  split <;> decide

theorem divStep_eq (c : Nat) (s : State) : divStep c s = { s with divAcc := (divStep c s).divAcc, mem := (divStep c s).mem } := by
  unfold divStep
  rw [divLoop_eq]

theorem divStep_dev_ne (c : Nat) (s : State) {k : Nat} (hk : k ≠ divAddr) : (divStep c s).dev k = s.dev k := divLoop_dev_ne _ _ hk

theorem timaStep_eq (c : Nat) (s : State) : timaStep c s = { s with timaAcc := (timaStep c s).timaAcc, mem := (timaStep c s).mem } := by
  unfold timaStep
  split
  · rw [timaLoop_eq]
  · rfl

theorem timaStep_dev_ne (c : Nat) (s : State) {k : Nat} (h1 : k ≠ timaAddr) (h2 : k ≠ ifAddr) : (timaStep c s).dev k = s.dev k := by
  unfold timaStep
  split
  · exact timaLoop_dev_ne _ _ _ h1 h2
  · rfl

/-- A timer step changes the accumulators and memory alone. -/
theorem timerStep_eq (c : Nat) (s : State) :
    timerStep c s = { s with divAcc := (timerStep c s).divAcc, timaAcc := (timerStep c s).timaAcc, mem := (timerStep c s).mem } := by
  unfold timerStep
  rw [timaStep_eq, divStep_eq]

theorem timerStep_wf (c : Nat) {s : State} (h : Memory.wf s.mem) : Memory.wf (timerStep c s).mem := by
  unfold timerStep timaStep
  split
  · exact timaLoop_wf _ _ (divLoop_wf _ h)
  · exact divLoop_wf _ h

/-! ### The graphics unit -/

theorem drawPixel_eq (s : State) (tc px : Nat) : drawPixel s tc px = { s with fb := (drawPixel s tc px).fb } := by
  unfold drawPixel
  dsimp only
  split <;> rfl

/-- Drawing reads nothing that it writes. -/
theorem drawPixel_dev (s : State) (tc px k : Nat) : (drawPixel s tc px).dev k = s.dev k := by
  rw [drawPixel_eq]; rfl

theorem foldl_drawPixel_eq (pxs : List Nat) (s : State) (tc : Nat) :
    pxs.foldl (fun u px => drawPixel u tc px) s = { s with fb := (pxs.foldl (fun u px => drawPixel u tc px) s).fb } := by
  induction pxs generalizing s with
  | nil => rfl
  | cons px pxs ih => rw [List.foldl_cons, ih, drawPixel_eq]

theorem foldl_columns_eq (tcs : List Nat) (s : State) :
    tcs.foldl (fun t tc => (List.range 8).foldl (fun u px => drawPixel u tc px) t) s =
      { s with fb := (tcs.foldl (fun t tc => (List.range 8).foldl (fun u px => drawPixel u tc px) t) s).fb } := by
  induction tcs generalizing s with
  | nil => rfl
  | cons tc tcs ih => rw [List.foldl_cons, ih, foldl_drawPixel_eq]

/-- The end of HBlank: LY, and at line 144 the request, the delivery and the mode. -/
theorem hBlankEnd_eq (s : State) :
    hBlankEnd s =
      { s with
        mode := (hBlankEnd s).mode, mem := (hBlankEnd s).mem, fb := (hBlankEnd s).fb, frames := (hBlankEnd s).frames } := by
  unfold hBlankEnd deliverFrame
  dsimp only
  split <;> rfl

theorem hBlankEnd_wf {s : State} (h : Memory.wf s.mem) : Memory.wf (hBlankEnd s).mem := by
  unfold hBlankEnd deliverFrame
  dsimp only
  split
  · exact State.devWrite_wf _ (State.devWrite_wf _ h (by decide)) (by decide)
  · exact State.devWrite_wf _ h (by decide)

theorem vBlankLineEnd_eq (s : State) :
    vBlankLineEnd s = { s with mode := (vBlankLineEnd s).mode, mem := (vBlankLineEnd s).mem } := by
  unfold vBlankLineEnd
  dsimp only
  split <;> rfl

theorem vBlankLineEnd_wf {s : State} (h : Memory.wf s.mem) : Memory.wf (vBlankLineEnd s).mem := by
  unfold vBlankLineEnd
  dsimp only
  split
  · exact State.devWrite_wf (s := s) (k := lyAddr) 0 h (by decide)
  · exact State.devWrite_wf (k := lyAddr) _ h (by decide)

theorem GfxMode.dur_pos (m : GfxMode) : 80 ≤ m.dur := by cases m <;> decide

/-- The loop's fuel may be anything from the dot counter up. -/
theorem gfxLoop_done {n : Nat} {s : State} (h : s.dot < s.mode.dur) : gfxLoop n s = s := by
  cases n with
  | zero => rfl
  | succ n => rw [gfxLoop, if_neg (by omega)]

theorem gfxLoop_turn {n : Nat} {s : State} (h : s.mode.dur ≤ s.dot) : gfxLoop (n + 1) s = gfxLoop n (gfxTransition s) := by
  rw [gfxLoop, if_pos h]

theorem Picture.setPixel_wf {p : Picture} (y x : Nat) (colour : Rgb) (h : Picture.wf p) (hy : y < 144) (hx : x < 160) :
    Picture.wf (p.setPixel y x colour) := by
  refine ⟨Sparse.put_wf _ _ h.1, fun c hc => ?_⟩
  rcases Sparse.mem_put hc with h' | h'
  · rw [h'.1]; simp only; omega
  · exact h.2 c h'

theorem Picture.pixel_setPixel (p : Picture) (y x y' x' : Nat) (colour : Rgb) (hx : x < 160) (hx' : x' < 160) :
    (p.setPixel y x colour).pixel y' x' = if y' = y ∧ x' = x then colour else p.pixel y' x' := by
  unfold Picture.pixel Picture.setPixel
  rw [Sparse.get_put]
  by_cases h : y' * 160 + x' = y * 160 + x
  · have : y' = y ∧ x' = x := by omega
    rw [if_pos h, if_pos this]
  · rw [if_neg h, if_neg (fun k => h (by rw [k.1, k.2]))]

/-! ### Interrupts -/

/-- What a dispatch can change. -/
theorem interruptDispatch_eq (s : State) :
    interruptDispatch s =
      { s with
        sp := (interruptDispatch s).sp, pc := (interruptDispatch s).pc, ime := (interruptDispatch s).ime,
        halted := (interruptDispatch s).halted, mem := (interruptDispatch s).mem, diags := (interruptDispatch s).diags } := by
  unfold interruptDispatch
  split
  · rfl
  · split
    · unfold State.takeInterrupt
      rw [State.push16_eq]
      rfl
    · rfl

/-! ### Fetch -/

theorem fetch_eq (s : State) : fetch s = some (s.byte s.pc, decodeBytes (s.byte s.pc) (s.byte (s.pc + 1)) (s.byte (s.pc + 2))) := by
  simp [fetch]

end Sys2Proof.Machine
end

