-- ==== Sys2Proof/Laws/Keeps.lean ====
section
/-! SUPPORT. What no instruction changes, once for every instruction: each shared operation keeps it, and with it `exec` does. -/

namespace Sys2Proof.Machine

/-- From `s` to `t` the devices, the cycle counter, the scanline register and the cartridge image are unchanged, and the invariants of memory and
flags are kept. -/
structure Keeps (s t : State) : Prop where
  cyc : t.cyc = s.cyc
  divAcc : t.divAcc = s.divAcc
  timaAcc : t.timaAcc = s.timaAcc
  mode : t.mode = s.mode
  dot : t.dot = s.dot
  fb : t.fb = s.fb
  frames : t.frames = s.frames
  ly : t.dev lyAddr = s.dev lyAddr
  rom : ∀ k, k < 0x8000 → t.dev k = s.dev k
  mem_wf : Memory.wf s.mem → Memory.wf t.mem
  if_high : s.dev ifAddr &&& 0xE0 = 0xE0 → t.dev ifAddr &&& 0xE0 = 0xE0
  flags_low : s.af &&& 0x000F = 0 → t.af &&& 0x000F = 0

theorem Keeps.refl (s : State) : Keeps s s := ⟨rfl, rfl, rfl, rfl, rfl, rfl, rfl, rfl, fun _ _ => rfl, id, id, id⟩

theorem Keeps.trans {s t u : State} (h : Keeps s t) (k : Keeps t u) : Keeps s u :=
  ⟨k.cyc.trans h.cyc, k.divAcc.trans h.divAcc, k.timaAcc.trans h.timaAcc, k.mode.trans h.mode, k.dot.trans h.dot, k.fb.trans h.fb,
    k.frames.trans h.frames, k.ly.trans h.ly, fun a ha => (k.rom a ha).trans (h.rom a ha), fun w => k.mem_wf (h.mem_wf w),
    fun w => k.if_high (h.if_high w), fun w => k.flags_low (h.flags_low w)⟩

/-- What `Keeps` speaks of is in these fields. -/
theorem Keeps.congr {s t u : State} (h : Keeps s t) (h1 : u.cyc = t.cyc) (h2 : u.divAcc = t.divAcc) (h3 : u.timaAcc = t.timaAcc)
    (h4 : u.mode = t.mode) (h5 : u.dot = t.dot) (h6 : u.fb = t.fb) (h7 : u.frames = t.frames) (h8 : u.mem = t.mem) (h9 : u.af = t.af) :
    Keeps s u :=
  h.trans ⟨h1, h2, h3, h4, h5, h6, h7, State.dev_congr _ h8, fun _ _ => State.dev_congr _ h8, fun w => h8 ▸ w,
    fun w => by rw [State.dev_congr _ h8]; exact w, fun w => h9 ▸ w⟩

/-! ### The operations -/

theorem keeps_advance (s : State) (n : Nat) : Keeps s (s.advance n) :=
  (Keeps.refl s).congr rfl rfl rfl rfl rfl rfl rfl rfl rfl

theorem keeps_raise (s : State) (f : Fault) : Keeps s (s.raise f) :=
  (Keeps.refl s).congr rfl rfl rfl rfl rfl rfl rfl rfl rfl

theorem keeps_unimplemented (s : State) (op : Byte) (n : Nat) : Keeps s (s.unimplemented op n) :=
  (keeps_advance s n).trans (keeps_raise _ _)

/-- A write to F, alone or as half of AF, clears its low four bits. -/
theorem low_of_mask (v : Word) : v &&& 0xFFF0 &&& 0x000F = 0 := by
  rw [BitVec.and_assoc]
  simp

theorem keeps_setR16 (s : State) (p : Reg16) (v : Word) : Keeps s (s.setR16 p v) := by
  cases p
  case AF =>
    exact ⟨rfl, rfl, rfl, rfl, rfl, rfl, rfl, rfl, fun _ _ => rfl, id, id, fun _ => low_of_mask v⟩
  all_goals exact (Keeps.refl s).congr rfl rfl rfl rfl rfl rfl rfl rfl rfl

theorem keeps_setR8 (s : State) (x : Reg8) (v : Byte) : Keeps s (s.setR8 x v) := by
  cases x
  case A =>
    refine ⟨rfl, rfl, rfl, rfl, rfl, rfl, rfl, rfl, fun _ _ => rfl, id, id, fun h => ?_⟩
    rw [State.setR8_A_af, ← loByte_and_low, loByte_mkWord, loByte_and_low]
    exact h
  case F =>
    refine ⟨rfl, rfl, rfl, rfl, rfl, rfl, rfl, rfl, fun _ _ => rfl, id, id, fun _ => ?_⟩
    rw [State.setR8_F_af, ← mkWord_and_mask]
    exact low_of_mask _
  all_goals exact (Keeps.refl s).congr rfl rfl rfl rfl rfl rfl rfl rfl rfl

theorem keeps_setFlags (s : State) (z n h c : Bool) : Keeps s (s.setFlags z n h c) := keeps_setR8 s .F _

theorem keeps_write (s : State) (a : Word) (v : Byte) : Keeps s (s.write a v) :=
  ⟨by simp, by simp, by simp, by simp, by simp, by simp, by simp, State.write_ly s a v, fun _ hk => State.write_rom s a v hk, State.write_wf a v,
    State.write_if_high a v, fun h => by simpa using h⟩

theorem keeps_writeWord (s : State) (a v : Word) : Keeps s (s.writeWord a v) := (keeps_write s a _).trans (keeps_write _ _ _)

theorem keeps_push16 (s : State) (v : Word) : Keeps s (s.push16 v) :=
  ((Keeps.refl s).congr (u := { s with sp := s.sp - 2 }) rfl rfl rfl rfl rfl rfl rfl rfl rfl).trans (keeps_writeWord _ _ _)

theorem keeps_setOperand (s : State) (o : Operand8) (v : Byte) : Keeps s (s.setOperand o v) := by
  cases o
  · exact keeps_setR8 s _ v
  · exact keeps_write s _ v
  · exact Keeps.refl s

/-! ### The shared meanings -/

theorem keeps_loadReg (d : Reg8) (n : Nat) (o : Operand8) (s : State) : Keeps s (loadReg d n o s) := by
  rw [loadReg, State.getThen_eq]; exact (keeps_advance s n).trans (keeps_setR8 _ _ _)

theorem keeps_storeByte (n : Nat) (a : Word) (v : Byte) (s : State) : Keeps s (storeByte n a v s) :=
  (keeps_advance s n).trans (keeps_write _ _ _)

theorem keeps_stepHL {s t : State} (d : Word) (h : Keeps s t) : Keeps s (stepHL d t) := h.congr rfl rfl rfl rfl rfl rfl rfl rfl rfl

theorem keeps_loadPair (p : Reg16) (nn : Word) (s : State) : Keeps s (loadPair p nn s) := (keeps_advance s 3).trans (keeps_setR16 _ _ _)

theorem keeps_storeSP (nn : Word) (s : State) : Keeps s (storeSP nn s) := (keeps_advance s 3).trans (keeps_writeWord _ _ _)

theorem keeps_copyHLtoSP (s : State) : Keeps s (copyHLtoSP s) := (keeps_advance s 1).trans (keeps_setR16 _ _ _)

theorem keeps_pushPair (p : Reg16) (s : State) : Keeps s (pushPair p s) := (keeps_advance s 1).trans (keeps_push16 _ _)

theorem keeps_popPair (p : Reg16) (s : State) : Keeps s (popPair p s) := by
  rw [popPair, State.popThen_eq]
  exact ((keeps_advance s 1).congr (u := { s.advance 1 with sp := s.sp + 2 }) rfl rfl rfl rfl rfl rfl rfl rfl rfl).trans
    (keeps_setR16 _ _ _)

theorem keeps_aluA (op : AluOp) (n : Nat) (o : Operand8) (s : State) : Keeps s (aluA op n o s) := by
  simp only [aluA, State.getThen_eq]
  refine Keeps.trans ?_ (keeps_setFlags _ _ _ _ _)
  split
  · exact (keeps_advance s n).trans (keeps_setR8 _ _ _)
  · exact keeps_advance s n

theorem keeps_modify (n : Nat) (o : Operand8) (f : Byte → Bool → Flagged) (s : State) : Keeps s (modify n o f s) := by
  rw [modify, State.getThen_eq]
  exact ((keeps_advance s n).trans (keeps_setOperand _ _ _)).trans (keeps_setFlags _ _ _ _ _)

theorem keeps_decimalAdjust (s : State) : Keeps s (decimalAdjust s) :=
  ((keeps_advance s 1).trans (keeps_setR8 _ _ _)).trans (keeps_setFlags _ _ _ _ _)

theorem keeps_complementA (s : State) : Keeps s (complementA s) :=
  ((keeps_advance s 1).trans (keeps_setR8 _ _ _)).trans (keeps_setFlags _ _ _ _ _)

theorem keeps_setCarry (s : State) : Keeps s (setCarry s) := (keeps_advance s 1).trans (keeps_setFlags _ _ _ _ _)

theorem keeps_complementCarry (s : State) : Keeps s (complementCarry s) := (keeps_advance s 1).trans (keeps_setFlags _ _ _ _ _)

theorem keeps_addHL (p : Reg16) (s : State) : Keeps s (addHL p s) :=
  ((keeps_advance s 1).trans (keeps_setFlags _ _ _ _ _)).trans (keeps_setR16 _ _ _)

theorem keeps_addPair (p : Reg16) (d : Word) (s : State) : Keeps s (addPair p d s) := (keeps_advance s 1).trans (keeps_setR16 _ _ _)

theorem keeps_spOffsetTo (p : Reg16) (e : Byte) (s : State) : Keeps s (spOffsetTo p e s) :=
  ((keeps_advance s 2).trans (keeps_setFlags _ _ _ _ _)).trans (keeps_setR16 _ _ _)

theorem keeps_jump (nn : Word) (s : State) : Keeps s (jump nn s) := (Keeps.refl s).congr rfl rfl rfl rfl rfl rfl rfl rfl rfl

theorem keeps_jumpIf (cc : Cond) (nn : Word) (s : State) : Keeps s (jumpIf cc nn s) := by
  unfold jumpIf; split
  · exact keeps_jump nn s
  · exact keeps_advance s 3

theorem keeps_jumpHL (s : State) : Keeps s (jumpHL s) := (Keeps.refl s).congr rfl rfl rfl rfl rfl rfl rfl rfl rfl

theorem keeps_jumpRel (e : Byte) (s : State) : Keeps s (jumpRel e s) := (Keeps.refl s).congr rfl rfl rfl rfl rfl rfl rfl rfl rfl

theorem keeps_jumpRelIf (cc : Cond) (e : Byte) (s : State) : Keeps s (jumpRelIf cc e s) := by
  unfold jumpRelIf; split
  · exact keeps_jumpRel e s
  · exact keeps_advance s 2

theorem keeps_call (n : Nat) (target : Word) (s : State) : Keeps s (call n target s) :=
  ((keeps_advance s n).trans (keeps_push16 _ _)).congr rfl rfl rfl rfl rfl rfl rfl rfl rfl

theorem keeps_callIf (cc : Cond) (nn : Word) (s : State) : Keeps s (callIf cc nn s) := by
  unfold callIf; split
  · exact keeps_call 3 nn s
  · exact keeps_advance s 3

theorem keeps_ret (s : State) : Keeps s (ret s) := by
  rw [ret, State.popThen_eq]; exact (Keeps.refl s).congr rfl rfl rfl rfl rfl rfl rfl rfl rfl

theorem keeps_retIf (cc : Cond) (s : State) : Keeps s (retIf cc s) := by
  unfold retIf; split
  · exact keeps_ret s
  · exact keeps_advance s 1

theorem keeps_reti (s : State) : Keeps s (reti s) := by
  rw [reti, State.returnFromInterrupt, State.popThen_eq]; exact (Keeps.refl s).congr rfl rfl rfl rfl rfl rfl rfl rfl rfl

theorem keeps_rotateA (f : Shift) (s : State) : Keeps s (rotateA f s) :=
  ((keeps_advance s 1).trans (keeps_setR8 _ _ _)).trans (keeps_setFlags _ _ _ _ _)

theorem keeps_shiftOperand (f : Shift) (o : Operand8) (s : State) : Keeps s (shiftOperand f o s) := keeps_modify 2 o _ s

theorem keeps_testBit (b : BitVec 3) (o : Operand8) (s : State) : Keeps s (testBit b o s) := by
  rw [testBit, State.getThen_eq]; exact (keeps_advance s 2).trans (keeps_setFlags _ _ _ _ _)

theorem keeps_resetBit (b : BitVec 3) (o : Operand8) (s : State) : Keeps s (resetBit b o s) := by
  rw [resetBit, State.getThen_eq]; exact (keeps_advance s 2).trans (keeps_setOperand _ _ _)

theorem keeps_setBit (b : BitVec 3) (o : Operand8) (s : State) : Keeps s (setBit b o s) := by
  rw [setBit, State.getThen_eq]; exact (keeps_advance s 2).trans (keeps_setOperand _ _ _)

theorem keeps_extendedOp (op2 : Byte) (s : State) : Keeps s (extendedOp op2 s) := by
  unfold extendedOp
  dsimp only
  split
  · exact keeps_shiftOperand _ _ s
  · exact keeps_testBit _ _ s
  · exact keeps_resetBit _ _ s
  · exact keeps_setBit _ _ s

theorem keeps_halt (s : State) : Keeps s (halt s) := (Keeps.refl s).congr rfl rfl rfl rfl rfl rfl rfl rfl rfl

theorem keeps_setIME (b : Bool) (s : State) : Keeps s (setIME b s) := (Keeps.refl s).congr rfl rfl rfl rfl rfl rfl rfl rfl rfl

theorem keeps_prefixed (op2 : Byte) (s : State) : Keeps s (prefixed op2 s) := by
  unfold prefixed; split
  · exact keeps_extendedOp op2 s
  · exact keeps_unimplemented s _ _

/-- Every instruction answers a next state, and keeps what `Keeps` says. -/
theorem exec_keeps (i : Instr) (s : State) : ∃ t, exec i s = .next t ∧ Keeps s t := by
  cases i
  all_goals
    refine ⟨_, rfl, ?_⟩
    with_reducible first
      | exact keeps_loadReg _ _ _ s
      | exact keeps_storeByte _ _ _ s
      | exact keeps_stepHL _ (keeps_storeByte _ _ _ s)
      | exact keeps_stepHL _ (keeps_loadReg _ _ _ s)
      | exact keeps_aluA _ _ _ s
      | exact keeps_modify _ _ _ s
      | exact keeps_shiftOperand _ _ s
      | exact keeps_testBit _ _ s
      | exact keeps_resetBit _ _ s
      | exact keeps_setBit _ _ s
      | exact keeps_unimplemented s _ _
      | exact keeps_call _ _ s
      | exact keeps_loadPair _ _ s
      | exact keeps_pushPair _ s
      | exact keeps_popPair _ s
      | exact keeps_addHL _ s
      | exact keeps_addPair _ _ s
      | exact keeps_spOffsetTo _ _ s
      | exact keeps_jump _ s
      | exact keeps_jumpIf _ _ s
      | exact keeps_jumpRel _ s
      | exact keeps_jumpRelIf _ _ s
      | exact keeps_callIf _ _ s
      | exact keeps_ret s
      | exact keeps_retIf _ s
      | exact keeps_rotateA _ s
      | exact keeps_setIME _ s
      | exact keeps_advance s 1
      | exact keeps_halt s
      | exact keeps_reti s
      | exact keeps_jumpHL s
      | exact keeps_prefixed _ s
      | exact keeps_storeSP _ s
      | exact keeps_copyHLtoSP s
      | exact keeps_decimalAdjust s
      | exact keeps_complementA s
      | exact keeps_setCarry s
      | exact keeps_complementCarry s

end Sys2Proof.Machine
end

