-- ==== Sys2Proof/Laws/PerInstr.lean ====
section
/-! SUPPORT. The per-instruction family `Encoding`: byte 0 of an instruction alone tells its length (30_encoding.md R112). -/

namespace Sys2Proof.Laws.Encoding

/-- The encoding of `i` starts with a byte whose row of the primary map has the encoding's length. -/
def Statement (i : Instr) : Prop := ∃ b0 rest, encode i = b0 :: rest ∧ (primary b0).length = (encode i).length

theorem nop : Statement (.nop) := ⟨_, _, rfl, rfl⟩

theorem ld_BC_nn (nn : Word) : Statement (.ld_BC_nn nn) := ⟨_, _, rfl, rfl⟩

theorem ld_atBC_A : Statement (.ld_atBC_A) := ⟨_, _, rfl, rfl⟩

theorem inc_BC : Statement (.inc_BC) := ⟨_, _, rfl, rfl⟩

theorem inc_B : Statement (.inc_B) := ⟨_, _, rfl, rfl⟩

theorem dec_B : Statement (.dec_B) := ⟨_, _, rfl, rfl⟩

theorem ld_B_n (n : Byte) : Statement (.ld_B_n n) := ⟨_, _, rfl, rfl⟩

theorem rlca : Statement (.rlca) := ⟨_, _, rfl, rfl⟩

theorem ld_atnn_SP (nn : Word) : Statement (.ld_atnn_SP nn) := ⟨_, _, rfl, rfl⟩

theorem add_HL_BC : Statement (.add_HL_BC) := ⟨_, _, rfl, rfl⟩

theorem ld_A_atBC : Statement (.ld_A_atBC) := ⟨_, _, rfl, rfl⟩

theorem dec_BC : Statement (.dec_BC) := ⟨_, _, rfl, rfl⟩

theorem inc_C : Statement (.inc_C) := ⟨_, _, rfl, rfl⟩

theorem dec_C : Statement (.dec_C) := ⟨_, _, rfl, rfl⟩

theorem ld_C_n (n : Byte) : Statement (.ld_C_n n) := ⟨_, _, rfl, rfl⟩

theorem rrca : Statement (.rrca) := ⟨_, _, rfl, rfl⟩

theorem stop (n : Byte) : Statement (.stop n) := ⟨_, _, rfl, rfl⟩

theorem ld_DE_nn (nn : Word) : Statement (.ld_DE_nn nn) := ⟨_, _, rfl, rfl⟩

theorem ld_atDE_A : Statement (.ld_atDE_A) := ⟨_, _, rfl, rfl⟩

theorem inc_DE : Statement (.inc_DE) := ⟨_, _, rfl, rfl⟩

theorem inc_D : Statement (.inc_D) := ⟨_, _, rfl, rfl⟩

theorem dec_D : Statement (.dec_D) := ⟨_, _, rfl, rfl⟩

theorem ld_D_n (n : Byte) : Statement (.ld_D_n n) := ⟨_, _, rfl, rfl⟩

theorem rla : Statement (.rla) := ⟨_, _, rfl, rfl⟩

theorem jr_e (e : Byte) : Statement (.jr_e e) := ⟨_, _, rfl, rfl⟩

theorem add_HL_DE : Statement (.add_HL_DE) := ⟨_, _, rfl, rfl⟩

theorem ld_A_atDE : Statement (.ld_A_atDE) := ⟨_, _, rfl, rfl⟩

theorem dec_DE : Statement (.dec_DE) := ⟨_, _, rfl, rfl⟩

theorem inc_E : Statement (.inc_E) := ⟨_, _, rfl, rfl⟩

theorem dec_E : Statement (.dec_E) := ⟨_, _, rfl, rfl⟩

theorem ld_E_n (n : Byte) : Statement (.ld_E_n n) := ⟨_, _, rfl, rfl⟩

theorem rra : Statement (.rra) := ⟨_, _, rfl, rfl⟩

theorem jr_NZ_e (e : Byte) : Statement (.jr_NZ_e e) := ⟨_, _, rfl, rfl⟩

theorem ld_HL_nn (nn : Word) : Statement (.ld_HL_nn nn) := ⟨_, _, rfl, rfl⟩

theorem ldi_atHL_A : Statement (.ldi_atHL_A) := ⟨_, _, rfl, rfl⟩

theorem inc_HL : Statement (.inc_HL) := ⟨_, _, rfl, rfl⟩

theorem inc_H : Statement (.inc_H) := ⟨_, _, rfl, rfl⟩

theorem dec_H : Statement (.dec_H) := ⟨_, _, rfl, rfl⟩

theorem ld_H_n (n : Byte) : Statement (.ld_H_n n) := ⟨_, _, rfl, rfl⟩

theorem daa : Statement (.daa) := ⟨_, _, rfl, rfl⟩

theorem jr_Z_e (e : Byte) : Statement (.jr_Z_e e) := ⟨_, _, rfl, rfl⟩

theorem add_HL_HL : Statement (.add_HL_HL) := ⟨_, _, rfl, rfl⟩

theorem ldi_A_atHL : Statement (.ldi_A_atHL) := ⟨_, _, rfl, rfl⟩

theorem dec_HL : Statement (.dec_HL) := ⟨_, _, rfl, rfl⟩

theorem inc_L : Statement (.inc_L) := ⟨_, _, rfl, rfl⟩

theorem dec_L : Statement (.dec_L) := ⟨_, _, rfl, rfl⟩

theorem ld_L_n (n : Byte) : Statement (.ld_L_n n) := ⟨_, _, rfl, rfl⟩

theorem cpl : Statement (.cpl) := ⟨_, _, rfl, rfl⟩

theorem jr_NC_e (e : Byte) : Statement (.jr_NC_e e) := ⟨_, _, rfl, rfl⟩

theorem ld_SP_nn (nn : Word) : Statement (.ld_SP_nn nn) := ⟨_, _, rfl, rfl⟩

theorem ldd_atHL_A : Statement (.ldd_atHL_A) := ⟨_, _, rfl, rfl⟩

theorem inc_SP : Statement (.inc_SP) := ⟨_, _, rfl, rfl⟩

theorem inc_atHL : Statement (.inc_atHL) := ⟨_, _, rfl, rfl⟩

theorem dec_atHL : Statement (.dec_atHL) := ⟨_, _, rfl, rfl⟩

theorem ld_atHL_n (n : Byte) : Statement (.ld_atHL_n n) := ⟨_, _, rfl, rfl⟩

theorem scf : Statement (.scf) := ⟨_, _, rfl, rfl⟩

theorem jr_C_e (e : Byte) : Statement (.jr_C_e e) := ⟨_, _, rfl, rfl⟩

theorem add_HL_SP : Statement (.add_HL_SP) := ⟨_, _, rfl, rfl⟩

theorem ldd_A_atHL : Statement (.ldd_A_atHL) := ⟨_, _, rfl, rfl⟩

theorem dec_SP : Statement (.dec_SP) := ⟨_, _, rfl, rfl⟩

theorem inc_A : Statement (.inc_A) := ⟨_, _, rfl, rfl⟩

theorem dec_A : Statement (.dec_A) := ⟨_, _, rfl, rfl⟩

theorem ld_A_n (n : Byte) : Statement (.ld_A_n n) := ⟨_, _, rfl, rfl⟩

theorem ccf : Statement (.ccf) := ⟨_, _, rfl, rfl⟩

theorem ld_B_B : Statement (.ld_B_B) := ⟨_, _, rfl, rfl⟩

theorem ld_B_C : Statement (.ld_B_C) := ⟨_, _, rfl, rfl⟩

theorem ld_B_D : Statement (.ld_B_D) := ⟨_, _, rfl, rfl⟩

theorem ld_B_E : Statement (.ld_B_E) := ⟨_, _, rfl, rfl⟩

theorem ld_B_H : Statement (.ld_B_H) := ⟨_, _, rfl, rfl⟩

theorem ld_B_L : Statement (.ld_B_L) := ⟨_, _, rfl, rfl⟩

theorem ld_B_atHL : Statement (.ld_B_atHL) := ⟨_, _, rfl, rfl⟩

theorem ld_B_A : Statement (.ld_B_A) := ⟨_, _, rfl, rfl⟩

theorem ld_C_B : Statement (.ld_C_B) := ⟨_, _, rfl, rfl⟩

theorem ld_C_C : Statement (.ld_C_C) := ⟨_, _, rfl, rfl⟩

theorem ld_C_D : Statement (.ld_C_D) := ⟨_, _, rfl, rfl⟩

theorem ld_C_E : Statement (.ld_C_E) := ⟨_, _, rfl, rfl⟩

theorem ld_C_H : Statement (.ld_C_H) := ⟨_, _, rfl, rfl⟩

theorem ld_C_L : Statement (.ld_C_L) := ⟨_, _, rfl, rfl⟩

theorem ld_C_atHL : Statement (.ld_C_atHL) := ⟨_, _, rfl, rfl⟩

theorem ld_C_A : Statement (.ld_C_A) := ⟨_, _, rfl, rfl⟩

theorem ld_D_B : Statement (.ld_D_B) := ⟨_, _, rfl, rfl⟩

theorem ld_D_C : Statement (.ld_D_C) := ⟨_, _, rfl, rfl⟩

theorem ld_D_D : Statement (.ld_D_D) := ⟨_, _, rfl, rfl⟩

theorem ld_D_E : Statement (.ld_D_E) := ⟨_, _, rfl, rfl⟩

theorem ld_D_H : Statement (.ld_D_H) := ⟨_, _, rfl, rfl⟩

theorem ld_D_L : Statement (.ld_D_L) := ⟨_, _, rfl, rfl⟩

theorem ld_D_atHL : Statement (.ld_D_atHL) := ⟨_, _, rfl, rfl⟩

theorem ld_D_A : Statement (.ld_D_A) := ⟨_, _, rfl, rfl⟩

theorem ld_E_B : Statement (.ld_E_B) := ⟨_, _, rfl, rfl⟩

theorem ld_E_C : Statement (.ld_E_C) := ⟨_, _, rfl, rfl⟩

theorem ld_E_D : Statement (.ld_E_D) := ⟨_, _, rfl, rfl⟩

theorem ld_E_E : Statement (.ld_E_E) := ⟨_, _, rfl, rfl⟩

theorem ld_E_H : Statement (.ld_E_H) := ⟨_, _, rfl, rfl⟩

theorem ld_E_L : Statement (.ld_E_L) := ⟨_, _, rfl, rfl⟩

theorem ld_E_atHL : Statement (.ld_E_atHL) := ⟨_, _, rfl, rfl⟩

theorem ld_E_A : Statement (.ld_E_A) := ⟨_, _, rfl, rfl⟩

theorem ld_H_B : Statement (.ld_H_B) := ⟨_, _, rfl, rfl⟩

theorem ld_H_C : Statement (.ld_H_C) := ⟨_, _, rfl, rfl⟩

theorem ld_H_D : Statement (.ld_H_D) := ⟨_, _, rfl, rfl⟩

theorem ld_H_E : Statement (.ld_H_E) := ⟨_, _, rfl, rfl⟩

theorem ld_H_H : Statement (.ld_H_H) := ⟨_, _, rfl, rfl⟩

theorem ld_H_L : Statement (.ld_H_L) := ⟨_, _, rfl, rfl⟩

theorem ld_H_atHL : Statement (.ld_H_atHL) := ⟨_, _, rfl, rfl⟩

theorem ld_H_A : Statement (.ld_H_A) := ⟨_, _, rfl, rfl⟩

theorem ld_L_B : Statement (.ld_L_B) := ⟨_, _, rfl, rfl⟩

theorem ld_L_C : Statement (.ld_L_C) := ⟨_, _, rfl, rfl⟩

theorem ld_L_D : Statement (.ld_L_D) := ⟨_, _, rfl, rfl⟩

theorem ld_L_E : Statement (.ld_L_E) := ⟨_, _, rfl, rfl⟩

theorem ld_L_H : Statement (.ld_L_H) := ⟨_, _, rfl, rfl⟩

theorem ld_L_L : Statement (.ld_L_L) := ⟨_, _, rfl, rfl⟩

theorem ld_L_atHL : Statement (.ld_L_atHL) := ⟨_, _, rfl, rfl⟩

theorem ld_L_A : Statement (.ld_L_A) := ⟨_, _, rfl, rfl⟩

theorem ld_atHL_B : Statement (.ld_atHL_B) := ⟨_, _, rfl, rfl⟩

theorem ld_atHL_C : Statement (.ld_atHL_C) := ⟨_, _, rfl, rfl⟩

theorem ld_atHL_D : Statement (.ld_atHL_D) := ⟨_, _, rfl, rfl⟩

theorem ld_atHL_E : Statement (.ld_atHL_E) := ⟨_, _, rfl, rfl⟩

theorem ld_atHL_H : Statement (.ld_atHL_H) := ⟨_, _, rfl, rfl⟩

theorem ld_atHL_L : Statement (.ld_atHL_L) := ⟨_, _, rfl, rfl⟩

theorem halt : Statement (.halt) := ⟨_, _, rfl, rfl⟩

theorem ld_atHL_A : Statement (.ld_atHL_A) := ⟨_, _, rfl, rfl⟩

theorem ld_A_B : Statement (.ld_A_B) := ⟨_, _, rfl, rfl⟩

theorem ld_A_C : Statement (.ld_A_C) := ⟨_, _, rfl, rfl⟩

theorem ld_A_D : Statement (.ld_A_D) := ⟨_, _, rfl, rfl⟩

theorem ld_A_E : Statement (.ld_A_E) := ⟨_, _, rfl, rfl⟩

theorem ld_A_H : Statement (.ld_A_H) := ⟨_, _, rfl, rfl⟩

theorem ld_A_L : Statement (.ld_A_L) := ⟨_, _, rfl, rfl⟩

theorem ld_A_atHL : Statement (.ld_A_atHL) := ⟨_, _, rfl, rfl⟩

theorem ld_A_A : Statement (.ld_A_A) := ⟨_, _, rfl, rfl⟩

theorem add_A_B : Statement (.add_A_B) := ⟨_, _, rfl, rfl⟩

theorem add_A_C : Statement (.add_A_C) := ⟨_, _, rfl, rfl⟩

theorem add_A_D : Statement (.add_A_D) := ⟨_, _, rfl, rfl⟩

theorem add_A_E : Statement (.add_A_E) := ⟨_, _, rfl, rfl⟩

theorem add_A_H : Statement (.add_A_H) := ⟨_, _, rfl, rfl⟩

theorem add_A_L : Statement (.add_A_L) := ⟨_, _, rfl, rfl⟩

theorem add_A_atHL : Statement (.add_A_atHL) := ⟨_, _, rfl, rfl⟩

theorem add_A_A : Statement (.add_A_A) := ⟨_, _, rfl, rfl⟩

theorem adc_A_B : Statement (.adc_A_B) := ⟨_, _, rfl, rfl⟩

theorem adc_A_C : Statement (.adc_A_C) := ⟨_, _, rfl, rfl⟩

theorem adc_A_D : Statement (.adc_A_D) := ⟨_, _, rfl, rfl⟩

theorem adc_A_E : Statement (.adc_A_E) := ⟨_, _, rfl, rfl⟩

theorem adc_A_H : Statement (.adc_A_H) := ⟨_, _, rfl, rfl⟩

theorem adc_A_L : Statement (.adc_A_L) := ⟨_, _, rfl, rfl⟩

theorem adc_A_atHL : Statement (.adc_A_atHL) := ⟨_, _, rfl, rfl⟩

theorem adc_A_A : Statement (.adc_A_A) := ⟨_, _, rfl, rfl⟩

theorem sub_B : Statement (.sub_B) := ⟨_, _, rfl, rfl⟩

theorem sub_C : Statement (.sub_C) := ⟨_, _, rfl, rfl⟩

theorem sub_D : Statement (.sub_D) := ⟨_, _, rfl, rfl⟩

theorem sub_E : Statement (.sub_E) := ⟨_, _, rfl, rfl⟩

theorem sub_H : Statement (.sub_H) := ⟨_, _, rfl, rfl⟩

theorem sub_L : Statement (.sub_L) := ⟨_, _, rfl, rfl⟩

theorem sub_atHL : Statement (.sub_atHL) := ⟨_, _, rfl, rfl⟩

theorem sub_A : Statement (.sub_A) := ⟨_, _, rfl, rfl⟩

theorem sbc_A_B : Statement (.sbc_A_B) := ⟨_, _, rfl, rfl⟩

theorem sbc_A_C : Statement (.sbc_A_C) := ⟨_, _, rfl, rfl⟩

theorem sbc_A_D : Statement (.sbc_A_D) := ⟨_, _, rfl, rfl⟩

theorem sbc_A_E : Statement (.sbc_A_E) := ⟨_, _, rfl, rfl⟩

theorem sbc_A_H : Statement (.sbc_A_H) := ⟨_, _, rfl, rfl⟩

theorem sbc_A_L : Statement (.sbc_A_L) := ⟨_, _, rfl, rfl⟩

theorem sbc_A_atHL : Statement (.sbc_A_atHL) := ⟨_, _, rfl, rfl⟩

theorem sbc_A_A : Statement (.sbc_A_A) := ⟨_, _, rfl, rfl⟩

theorem and_B : Statement (.and_B) := ⟨_, _, rfl, rfl⟩

theorem and_C : Statement (.and_C) := ⟨_, _, rfl, rfl⟩

theorem and_D : Statement (.and_D) := ⟨_, _, rfl, rfl⟩

theorem and_E : Statement (.and_E) := ⟨_, _, rfl, rfl⟩

theorem and_H : Statement (.and_H) := ⟨_, _, rfl, rfl⟩

theorem and_L : Statement (.and_L) := ⟨_, _, rfl, rfl⟩

theorem and_atHL : Statement (.and_atHL) := ⟨_, _, rfl, rfl⟩

theorem and_A : Statement (.and_A) := ⟨_, _, rfl, rfl⟩

theorem xor_B : Statement (.xor_B) := ⟨_, _, rfl, rfl⟩

theorem xor_C : Statement (.xor_C) := ⟨_, _, rfl, rfl⟩

theorem xor_D : Statement (.xor_D) := ⟨_, _, rfl, rfl⟩

theorem xor_E : Statement (.xor_E) := ⟨_, _, rfl, rfl⟩

theorem xor_H : Statement (.xor_H) := ⟨_, _, rfl, rfl⟩

theorem xor_L : Statement (.xor_L) := ⟨_, _, rfl, rfl⟩

theorem xor_atHL : Statement (.xor_atHL) := ⟨_, _, rfl, rfl⟩

theorem xor_A : Statement (.xor_A) := ⟨_, _, rfl, rfl⟩

theorem or_B : Statement (.or_B) := ⟨_, _, rfl, rfl⟩

theorem or_C : Statement (.or_C) := ⟨_, _, rfl, rfl⟩

theorem or_D : Statement (.or_D) := ⟨_, _, rfl, rfl⟩

theorem or_E : Statement (.or_E) := ⟨_, _, rfl, rfl⟩

theorem or_H : Statement (.or_H) := ⟨_, _, rfl, rfl⟩

theorem or_L : Statement (.or_L) := ⟨_, _, rfl, rfl⟩

theorem or_atHL : Statement (.or_atHL) := ⟨_, _, rfl, rfl⟩

theorem or_A : Statement (.or_A) := ⟨_, _, rfl, rfl⟩

theorem cp_B : Statement (.cp_B) := ⟨_, _, rfl, rfl⟩

theorem cp_C : Statement (.cp_C) := ⟨_, _, rfl, rfl⟩

theorem cp_D : Statement (.cp_D) := ⟨_, _, rfl, rfl⟩

theorem cp_E : Statement (.cp_E) := ⟨_, _, rfl, rfl⟩

theorem cp_H : Statement (.cp_H) := ⟨_, _, rfl, rfl⟩

theorem cp_L : Statement (.cp_L) := ⟨_, _, rfl, rfl⟩

theorem cp_atHL : Statement (.cp_atHL) := ⟨_, _, rfl, rfl⟩

theorem cp_A : Statement (.cp_A) := ⟨_, _, rfl, rfl⟩

theorem ret_NZ : Statement (.ret_NZ) := ⟨_, _, rfl, rfl⟩

theorem pop_BC : Statement (.pop_BC) := ⟨_, _, rfl, rfl⟩

theorem jp_NZ_nn (nn : Word) : Statement (.jp_NZ_nn nn) := ⟨_, _, rfl, rfl⟩

theorem jp_nn (nn : Word) : Statement (.jp_nn nn) := ⟨_, _, rfl, rfl⟩

theorem call_NZ_nn (nn : Word) : Statement (.call_NZ_nn nn) := ⟨_, _, rfl, rfl⟩

theorem push_BC : Statement (.push_BC) := ⟨_, _, rfl, rfl⟩

theorem add_A_n (n : Byte) : Statement (.add_A_n n) := ⟨_, _, rfl, rfl⟩

theorem rst_00H : Statement (.rst_00H) := ⟨_, _, rfl, rfl⟩

theorem ret_Z : Statement (.ret_Z) := ⟨_, _, rfl, rfl⟩

theorem ret : Statement (.ret) := ⟨_, _, rfl, rfl⟩

theorem jp_Z_nn (nn : Word) : Statement (.jp_Z_nn nn) := ⟨_, _, rfl, rfl⟩

theorem prefixCB (op2 : Byte) : Statement (.prefixCB op2) := ⟨_, _, rfl, rfl⟩

theorem call_Z_nn (nn : Word) : Statement (.call_Z_nn nn) := ⟨_, _, rfl, rfl⟩

theorem call_nn (nn : Word) : Statement (.call_nn nn) := ⟨_, _, rfl, rfl⟩

theorem adc_A_n (n : Byte) : Statement (.adc_A_n n) := ⟨_, _, rfl, rfl⟩

theorem rst_08H : Statement (.rst_08H) := ⟨_, _, rfl, rfl⟩

theorem ret_NC : Statement (.ret_NC) := ⟨_, _, rfl, rfl⟩

theorem pop_DE : Statement (.pop_DE) := ⟨_, _, rfl, rfl⟩

theorem jp_NC_nn (nn : Word) : Statement (.jp_NC_nn nn) := ⟨_, _, rfl, rfl⟩

theorem illegal_D3 : Statement (.illegal_D3) := ⟨_, _, rfl, rfl⟩

theorem call_NC_nn (nn : Word) : Statement (.call_NC_nn nn) := ⟨_, _, rfl, rfl⟩

theorem push_DE : Statement (.push_DE) := ⟨_, _, rfl, rfl⟩

theorem sub_n (n : Byte) : Statement (.sub_n n) := ⟨_, _, rfl, rfl⟩

theorem rst_10H : Statement (.rst_10H) := ⟨_, _, rfl, rfl⟩

theorem ret_C : Statement (.ret_C) := ⟨_, _, rfl, rfl⟩

theorem reti : Statement (.reti) := ⟨_, _, rfl, rfl⟩

theorem jp_C_nn (nn : Word) : Statement (.jp_C_nn nn) := ⟨_, _, rfl, rfl⟩

theorem illegal_DB : Statement (.illegal_DB) := ⟨_, _, rfl, rfl⟩

theorem call_C_nn (nn : Word) : Statement (.call_C_nn nn) := ⟨_, _, rfl, rfl⟩

theorem illegal_DD : Statement (.illegal_DD) := ⟨_, _, rfl, rfl⟩

theorem sbc_A_n (n : Byte) : Statement (.sbc_A_n n) := ⟨_, _, rfl, rfl⟩

theorem rst_18H : Statement (.rst_18H) := ⟨_, _, rfl, rfl⟩

theorem ldh_atn_A (n : Byte) : Statement (.ldh_atn_A n) := ⟨_, _, rfl, rfl⟩

theorem pop_HL : Statement (.pop_HL) := ⟨_, _, rfl, rfl⟩

theorem ld_atC_A : Statement (.ld_atC_A) := ⟨_, _, rfl, rfl⟩

theorem illegal_E3 : Statement (.illegal_E3) := ⟨_, _, rfl, rfl⟩

theorem illegal_E4 : Statement (.illegal_E4) := ⟨_, _, rfl, rfl⟩

theorem push_HL : Statement (.push_HL) := ⟨_, _, rfl, rfl⟩

theorem and_n (n : Byte) : Statement (.and_n n) := ⟨_, _, rfl, rfl⟩

theorem rst_20H : Statement (.rst_20H) := ⟨_, _, rfl, rfl⟩

theorem add_SP_e (e : Byte) : Statement (.add_SP_e e) := ⟨_, _, rfl, rfl⟩

theorem jp_HL : Statement (.jp_HL) := ⟨_, _, rfl, rfl⟩

theorem ld_atnn_A (nn : Word) : Statement (.ld_atnn_A nn) := ⟨_, _, rfl, rfl⟩

theorem illegal_EB : Statement (.illegal_EB) := ⟨_, _, rfl, rfl⟩

theorem illegal_EC : Statement (.illegal_EC) := ⟨_, _, rfl, rfl⟩

theorem illegal_ED : Statement (.illegal_ED) := ⟨_, _, rfl, rfl⟩

theorem xor_n (n : Byte) : Statement (.xor_n n) := ⟨_, _, rfl, rfl⟩

theorem rst_28H : Statement (.rst_28H) := ⟨_, _, rfl, rfl⟩

theorem ldh_A_atn (n : Byte) : Statement (.ldh_A_atn n) := ⟨_, _, rfl, rfl⟩

theorem pop_AF : Statement (.pop_AF) := ⟨_, _, rfl, rfl⟩

theorem ld_A_atC : Statement (.ld_A_atC) := ⟨_, _, rfl, rfl⟩

theorem di : Statement (.di) := ⟨_, _, rfl, rfl⟩

theorem illegal_F4 : Statement (.illegal_F4) := ⟨_, _, rfl, rfl⟩

theorem push_AF : Statement (.push_AF) := ⟨_, _, rfl, rfl⟩

theorem or_n (n : Byte) : Statement (.or_n n) := ⟨_, _, rfl, rfl⟩

theorem rst_30H : Statement (.rst_30H) := ⟨_, _, rfl, rfl⟩

theorem ld_HL_SPe (e : Byte) : Statement (.ld_HL_SPe e) := ⟨_, _, rfl, rfl⟩

theorem ld_SP_HL : Statement (.ld_SP_HL) := ⟨_, _, rfl, rfl⟩

theorem ld_A_atnn (nn : Word) : Statement (.ld_A_atnn nn) := ⟨_, _, rfl, rfl⟩

theorem ei : Statement (.ei) := ⟨_, _, rfl, rfl⟩

theorem illegal_FC : Statement (.illegal_FC) := ⟨_, _, rfl, rfl⟩

theorem illegal_FD : Statement (.illegal_FD) := ⟨_, _, rfl, rfl⟩

theorem cp_n (n : Byte) : Statement (.cp_n n) := ⟨_, _, rfl, rfl⟩

theorem rst_38H : Statement (.rst_38H) := ⟨_, _, rfl, rfl⟩

theorem rlc_B : Statement (.rlc_B) := ⟨_, _, rfl, rfl⟩

theorem rlc_C : Statement (.rlc_C) := ⟨_, _, rfl, rfl⟩

theorem rlc_D : Statement (.rlc_D) := ⟨_, _, rfl, rfl⟩

theorem rlc_E : Statement (.rlc_E) := ⟨_, _, rfl, rfl⟩

theorem rlc_H : Statement (.rlc_H) := ⟨_, _, rfl, rfl⟩

theorem rlc_L : Statement (.rlc_L) := ⟨_, _, rfl, rfl⟩

theorem rlc_atHL : Statement (.rlc_atHL) := ⟨_, _, rfl, rfl⟩

theorem rlc_A : Statement (.rlc_A) := ⟨_, _, rfl, rfl⟩

theorem rrc_B : Statement (.rrc_B) := ⟨_, _, rfl, rfl⟩

theorem rrc_C : Statement (.rrc_C) := ⟨_, _, rfl, rfl⟩

theorem rrc_D : Statement (.rrc_D) := ⟨_, _, rfl, rfl⟩

theorem rrc_E : Statement (.rrc_E) := ⟨_, _, rfl, rfl⟩

theorem rrc_H : Statement (.rrc_H) := ⟨_, _, rfl, rfl⟩

theorem rrc_L : Statement (.rrc_L) := ⟨_, _, rfl, rfl⟩

theorem rrc_atHL : Statement (.rrc_atHL) := ⟨_, _, rfl, rfl⟩

theorem rrc_A : Statement (.rrc_A) := ⟨_, _, rfl, rfl⟩

theorem rl_B : Statement (.rl_B) := ⟨_, _, rfl, rfl⟩

theorem rl_C : Statement (.rl_C) := ⟨_, _, rfl, rfl⟩

theorem rl_D : Statement (.rl_D) := ⟨_, _, rfl, rfl⟩

theorem rl_E : Statement (.rl_E) := ⟨_, _, rfl, rfl⟩

theorem rl_H : Statement (.rl_H) := ⟨_, _, rfl, rfl⟩

theorem rl_L : Statement (.rl_L) := ⟨_, _, rfl, rfl⟩

theorem rl_atHL : Statement (.rl_atHL) := ⟨_, _, rfl, rfl⟩

theorem rl_A : Statement (.rl_A) := ⟨_, _, rfl, rfl⟩

theorem rr_B : Statement (.rr_B) := ⟨_, _, rfl, rfl⟩

theorem rr_C : Statement (.rr_C) := ⟨_, _, rfl, rfl⟩

theorem rr_D : Statement (.rr_D) := ⟨_, _, rfl, rfl⟩

theorem rr_E : Statement (.rr_E) := ⟨_, _, rfl, rfl⟩

theorem rr_H : Statement (.rr_H) := ⟨_, _, rfl, rfl⟩

theorem rr_L : Statement (.rr_L) := ⟨_, _, rfl, rfl⟩

theorem rr_atHL : Statement (.rr_atHL) := ⟨_, _, rfl, rfl⟩

theorem rr_A : Statement (.rr_A) := ⟨_, _, rfl, rfl⟩

theorem sla_B : Statement (.sla_B) := ⟨_, _, rfl, rfl⟩

theorem sla_C : Statement (.sla_C) := ⟨_, _, rfl, rfl⟩

theorem sla_D : Statement (.sla_D) := ⟨_, _, rfl, rfl⟩

theorem sla_E : Statement (.sla_E) := ⟨_, _, rfl, rfl⟩

theorem sla_H : Statement (.sla_H) := ⟨_, _, rfl, rfl⟩

theorem sla_L : Statement (.sla_L) := ⟨_, _, rfl, rfl⟩

theorem sla_atHL : Statement (.sla_atHL) := ⟨_, _, rfl, rfl⟩

theorem sla_A : Statement (.sla_A) := ⟨_, _, rfl, rfl⟩

theorem sra_B : Statement (.sra_B) := ⟨_, _, rfl, rfl⟩

theorem sra_C : Statement (.sra_C) := ⟨_, _, rfl, rfl⟩

theorem sra_D : Statement (.sra_D) := ⟨_, _, rfl, rfl⟩

theorem sra_E : Statement (.sra_E) := ⟨_, _, rfl, rfl⟩

theorem sra_H : Statement (.sra_H) := ⟨_, _, rfl, rfl⟩

theorem sra_L : Statement (.sra_L) := ⟨_, _, rfl, rfl⟩

theorem sra_atHL : Statement (.sra_atHL) := ⟨_, _, rfl, rfl⟩

theorem sra_A : Statement (.sra_A) := ⟨_, _, rfl, rfl⟩

theorem swap_B : Statement (.swap_B) := ⟨_, _, rfl, rfl⟩

theorem swap_C : Statement (.swap_C) := ⟨_, _, rfl, rfl⟩

theorem swap_D : Statement (.swap_D) := ⟨_, _, rfl, rfl⟩

theorem swap_E : Statement (.swap_E) := ⟨_, _, rfl, rfl⟩

theorem swap_H : Statement (.swap_H) := ⟨_, _, rfl, rfl⟩

theorem swap_L : Statement (.swap_L) := ⟨_, _, rfl, rfl⟩

theorem swap_atHL : Statement (.swap_atHL) := ⟨_, _, rfl, rfl⟩

theorem swap_A : Statement (.swap_A) := ⟨_, _, rfl, rfl⟩

theorem srl_B : Statement (.srl_B) := ⟨_, _, rfl, rfl⟩

theorem srl_C : Statement (.srl_C) := ⟨_, _, rfl, rfl⟩

theorem srl_D : Statement (.srl_D) := ⟨_, _, rfl, rfl⟩

theorem srl_E : Statement (.srl_E) := ⟨_, _, rfl, rfl⟩

theorem srl_H : Statement (.srl_H) := ⟨_, _, rfl, rfl⟩

theorem srl_L : Statement (.srl_L) := ⟨_, _, rfl, rfl⟩

theorem srl_atHL : Statement (.srl_atHL) := ⟨_, _, rfl, rfl⟩

theorem srl_A : Statement (.srl_A) := ⟨_, _, rfl, rfl⟩

theorem bit_b_B (b : BitVec 3) : Statement (.bit_b_B b) := ⟨_, _, rfl, rfl⟩

theorem bit_b_C (b : BitVec 3) : Statement (.bit_b_C b) := ⟨_, _, rfl, rfl⟩

theorem bit_b_D (b : BitVec 3) : Statement (.bit_b_D b) := ⟨_, _, rfl, rfl⟩

theorem bit_b_E (b : BitVec 3) : Statement (.bit_b_E b) := ⟨_, _, rfl, rfl⟩

theorem bit_b_H (b : BitVec 3) : Statement (.bit_b_H b) := ⟨_, _, rfl, rfl⟩

theorem bit_b_L (b : BitVec 3) : Statement (.bit_b_L b) := ⟨_, _, rfl, rfl⟩

theorem bit_b_atHL (b : BitVec 3) : Statement (.bit_b_atHL b) := ⟨_, _, rfl, rfl⟩

theorem bit_b_A (b : BitVec 3) : Statement (.bit_b_A b) := ⟨_, _, rfl, rfl⟩

theorem res_b_B (b : BitVec 3) : Statement (.res_b_B b) := ⟨_, _, rfl, rfl⟩

theorem res_b_C (b : BitVec 3) : Statement (.res_b_C b) := ⟨_, _, rfl, rfl⟩

theorem res_b_D (b : BitVec 3) : Statement (.res_b_D b) := ⟨_, _, rfl, rfl⟩

theorem res_b_E (b : BitVec 3) : Statement (.res_b_E b) := ⟨_, _, rfl, rfl⟩

theorem res_b_H (b : BitVec 3) : Statement (.res_b_H b) := ⟨_, _, rfl, rfl⟩

theorem res_b_L (b : BitVec 3) : Statement (.res_b_L b) := ⟨_, _, rfl, rfl⟩

theorem res_b_atHL (b : BitVec 3) : Statement (.res_b_atHL b) := ⟨_, _, rfl, rfl⟩

theorem res_b_A (b : BitVec 3) : Statement (.res_b_A b) := ⟨_, _, rfl, rfl⟩

theorem set_b_B (b : BitVec 3) : Statement (.set_b_B b) := ⟨_, _, rfl, rfl⟩

theorem set_b_C (b : BitVec 3) : Statement (.set_b_C b) := ⟨_, _, rfl, rfl⟩

theorem set_b_D (b : BitVec 3) : Statement (.set_b_D b) := ⟨_, _, rfl, rfl⟩

theorem set_b_E (b : BitVec 3) : Statement (.set_b_E b) := ⟨_, _, rfl, rfl⟩

theorem set_b_H (b : BitVec 3) : Statement (.set_b_H b) := ⟨_, _, rfl, rfl⟩

theorem set_b_L (b : BitVec 3) : Statement (.set_b_L b) := ⟨_, _, rfl, rfl⟩

theorem set_b_atHL (b : BitVec 3) : Statement (.set_b_atHL b) := ⟨_, _, rfl, rfl⟩

theorem set_b_A (b : BitVec 3) : Statement (.set_b_A b) := ⟨_, _, rfl, rfl⟩

end Sys2Proof.Laws.Encoding
end

