-- ==== Sys2Proof/Laws/Specs.lean ====
section
/-! SUPPORT. One lemma per shared operation of the meanings, in the words of the statements: everything the operation does. -/

namespace Sys2Proof.Machine

open Sys2Proof.Claims

/-! ### Frames -/

theorem apart_refl (s : State) : Apart s s := ⟨rfl, rfl, rfl, rfl, rfl, rfl, rfl, rfl, rfl, rfl⟩

theorem apart_trans {s t u : State} (h : Apart s t) (k : Apart t u) : Apart s u :=
  ⟨k.ime.trans h.ime, k.halted.trans h.halted, k.cyc.trans h.cyc, k.fault.trans h.fault, k.divAcc.trans h.divAcc,
    k.timaAcc.trans h.timaAcc, k.mode.trans h.mode, k.dot.trans h.dot, k.fb.trans h.fb, k.frames.trans h.frames⟩

theorem apart_advance (s : State) (n : Nat) : Apart s (s.advance n) := ⟨rfl, rfl, rfl, rfl, rfl, rfl, rfl, rfl, rfl, rfl⟩

theorem apart_setR8 (s : State) (x : Reg8) (v : Byte) : Apart s (s.setR8 x v) := by constructor <;> simp

theorem apart_setR16 (s : State) (p : Reg16) (v : Word) : Apart s (s.setR16 p v) := by constructor <;> simp

theorem apart_setFlags (s : State) (z n h c : Bool) : Apart s (s.setFlags z n h c) := by constructor <;> simp

theorem apart_write (s : State) (a : Word) (v : Byte) : Apart s (s.write a v) := by constructor <;> simp

/-- The flags after writing all four. -/
theorem flagsAre_setFlags (s : State) {z n h c : Bool} {pz pn ph pc : Prop} (hz : z = true ↔ pz) (hn : n = true ↔ pn)
    (hh : h = true ↔ ph) (hc : c = true ↔ pc) : FlagsAre (s.setFlags z n h c) pz pn ph pc := by
  refine ⟨by simpa using hz, by simpa using hn, by simpa using hh, by simpa using hc, ?_⟩
  rw [State.r8_F, State.setFlags_af, loByte_mkWord]
  cases z <;> cases n <;> cases h <;> cases c <;> decide

/-- Flags do not depend on what is no register. -/
theorem flagsAre_congr {s t : State} {z n h c : Prop} (h1 : FlagsAre s z n h c) (haf : t.af = s.af) : FlagsAre t z n h c := by
  simpa only [FlagsAre, State.flag_eq, State.r8_F, haf] using h1

/-! ### Stores -/

/-- `SameCell` says that two addresses have one home. -/
theorem sameCell_iff (a b : Word) : SameCell a b ↔ Memory.home b = Memory.home a := by
  have ha := a.isLt
  have hb := b.isLt
  have heq : b = a ↔ b.toNat = a.toNat := ⟨fun h => h ▸ rfl, BitVec.eq_of_toNat_eq⟩
  rw [SameCell, heq]
  unfold Memory.home
  split <;> split <;> omega

/-- Reading two addresses of one cell gives one byte. -/
theorem State.byte_of_sameCell (s : State) {a b : Word} (h : SameCell a b) : s.byte b = s.byte a := by
  rw [State.byte, State.byte, (sameCell_iff a b).1 h]

theorem stored_write (s : State) (a : Word) (v : Byte) : Stored a v s (s.write a v) := by
  refine ⟨fun b hb => ?_, fun b hb => ?_, State.diags_write s a v⟩
  · rw [State.byte_write, if_pos ((sameCell_iff a b).1 hb), storedAs, State.byte_of_sameCell s hb]
  · rw [State.byte_write, if_neg (fun h => hb ((sameCell_iff a b).2 h))]

/-- `Stored` looks at memory and the Diagnostic trace alone. -/
theorem stored_congr {s s' t t' : State} {a : Word} {v : Byte} (h : Stored a v s t) (hs : s'.mem = s.mem) (hsd : s'.diags = s.diags)
    (ht : t'.mem = t.mem) (htd : t'.diags = t.diags) : Stored a v s' t' := by
  obtain ⟨h1, h2, h3⟩ := h
  refine ⟨fun b hb => ?_, fun b hb => ?_, ?_⟩
  · rw [State.byte_congr b ht, h1 b hb, State.byte_congr a hs]
  · rw [State.byte_congr b ht, h2 b hb, State.byte_congr b hs]
  · rw [htd, h3, hsd, State.byte_congr _ hs]

theorem storedWord_writeWord (s : State) (a v : Word) : StoredWord a v s (s.writeWord a v) := by
  have hsucc : ¬SameCell (a + 1) a := fun h => Memory.home_succ_ne a ((sameCell_iff (a + 1) a).1 h).symm
  have hpred : ¬SameCell a (a + 1) := fun h => Memory.home_succ_ne a ((sameCell_iff a (a + 1)).1 h)
  have hsep : ∀ b, SameCell a b → ¬SameCell (a + 1) b := fun b h k => by
    rw [sameCell_iff] at h k
    exact Memory.home_succ_ne a (k.symm.trans h)
  obtain ⟨h1, h2, h3⟩ := stored_write s a (loByte v)
  obtain ⟨k1, k2, k3⟩ := stored_write (s.write a (loByte v)) (a + 1) (hiByte v)
  refine ⟨fun b hb => ?_, fun b hb => ?_, fun b hb hb' => ?_, ?_⟩
  · rw [State.writeWord, k2 b (hsep b hb), h1 b hb]; rfl
  · rw [State.writeWord, k1 b hb, h2 (a + 1) hpred]; rfl
  · rw [State.writeWord, k2 b hb', h2 b hb]
  · rw [State.writeWord, k3, h3, show lo8 v = loByte v from rfl, show hi8 v = hiByte v from rfl]
    by_cases ha : a = 0xFF02
    · subst ha
      by_cases hv : loByte v = 0x81 <;> simp [hv]
    · by_cases ha1 : a = 0xFF01
      · subst ha1
        rw [h1 _ (.inl rfl), storedAs]
        by_cases hv : hiByte v = 0x81 <;> simp [hv]
      · have ha2 : a + 1 ≠ 0xFF02 := fun h => ha1 (by bv_omega)
        rw [if_neg (fun h => ha2 h.1), if_neg (fun h => ha h.1), if_neg (fun h => ha h.1), if_neg (fun h => ha1 h.1)]

theorem storedWord_congr {s s' t t' : State} {a v : Word} (h : StoredWord a v s t) (hs : s'.mem = s.mem) (hsd : s'.diags = s.diags)
    (ht : t'.mem = t.mem) (htd : t'.diags = t.diags) : StoredWord a v s' t' := by
  obtain ⟨h1, h2, h3, h4⟩ := h
  refine ⟨fun b hb => ?_, fun b hb => ?_, fun b hb hb' => ?_, ?_⟩
  · rw [State.byte_congr b ht, h1 b hb, State.byte_congr a hs]
  · rw [State.byte_congr b ht, h2 b hb, State.byte_congr _ hs]
  · rw [State.byte_congr b ht, h3 b hb hb', State.byte_congr b hs]
  · rw [htd, h4, hsd, State.byte_congr _ hs]

/-! ### Loads and stores of a byte -/

/-- `loadReg` loads the operand's byte. -/
theorem loadsReg_loadReg {d : Reg8} (hd : d ∈ dataRegs) (n : Nat) (o : Operand8) (s : State) :
    LoadsReg d ((s.advance n).operandByte o) (BitVec.ofNat 16 n) s (loadReg d n o s) := by
  simp only [Machine.loadReg, State.getThen_eq]
  generalize (s.advance n).operandByte o = v
  simp only [dataRegs, List.mem_cons, List.not_mem_nil, or_false] at hd
  rcases hd with rfl | rfl | rfl | rfl | rfl | rfl | rfl | rfl | rfl
  all_goals
    exact ⟨by simp, by simp [RegsKept, dataRegs], by simp [FlagsKept], ⟨fun a => by simp, by simp⟩,
      apart_trans (apart_advance s n) (apart_setR8 _ _ _), rfl⟩

/-- `storeByte` stores the byte. -/
theorem storesByte_storeByte (n : Nat) (a : Word) (v : Byte) (s : State) : StoresByte a v (BitVec.ofNat 16 n) s (storeByte n a v s) :=
  ⟨stored_congr (stored_write (s.advance n) a v) rfl rfl rfl rfl, by simp [RegsKept, dataRegs, Machine.storeByte],
    by simp [FlagsKept, Machine.storeByte], apart_trans (apart_advance s n) (apart_write _ _ _), by simp [Falls, Machine.storeByte]⟩

/-! ### `stepHL` -/

@[simp] theorem stepHL_hl (d : Word) (t : State) : (stepHL d t).hl = t.hl + d := rfl
@[simp] theorem stepHL_af (d : Word) (t : State) : (stepHL d t).af = t.af := rfl
@[simp] theorem stepHL_bc (d : Word) (t : State) : (stepHL d t).bc = t.bc := rfl
@[simp] theorem stepHL_de (d : Word) (t : State) : (stepHL d t).de = t.de := rfl
@[simp] theorem stepHL_sp (d : Word) (t : State) : (stepHL d t).sp = t.sp := rfl
@[simp] theorem stepHL_pc (d : Word) (t : State) : (stepHL d t).pc = t.pc := rfl
@[simp] theorem stepHL_mem (d : Word) (t : State) : (stepHL d t).mem = t.mem := rfl
@[simp] theorem stepHL_diags (d : Word) (t : State) : (stepHL d t).diags = t.diags := rfl
@[simp] theorem stepHL_byte (d : Word) (t : State) (a : Word) : (stepHL d t).byte a = t.byte a := rfl
theorem apart_stepHL (d : Word) (t : State) : Apart t (stepHL d t) := ⟨rfl, rfl, rfl, rfl, rfl, rfl, rfl, rfl, rfl, rfl⟩

/-! ### 8-bit arithmetic -/

/-- `aluA`, for an operation that stores its result. -/
theorem aluA_spec {op : AluOp} (hop : op.storesResult = true) (n : Nat) (o : Operand8) (s : State) :
    let r := op.apply (s.r8 .A) ((s.advance n).operandByte o) (s.flag .C)
    (aluA op n o s).r8 .A = r.res ∧ FlagsAre (aluA op n o s) (r.z = true) (r.n = true) (r.h = true) (r.c = true) ∧
      OnlyAAndFlags (BitVec.ofNat 16 n) s (aluA op n o s) := by
  simp only [aluA, State.getThen_eq, hop, if_true]
  exact ⟨by simp, flagsAre_setFlags _ Iff.rfl Iff.rfl Iff.rfl Iff.rfl, by simp [RegsKept, dataRegs], ⟨fun a => by simp, by simp⟩,
    apart_trans (apart_trans (apart_advance s n) (apart_setR8 _ _ _)) (apart_setFlags _ _ _ _ _), rfl⟩

theorem addsToA_add (n : Nat) (o : Operand8) (s : State) :
    AddsToA ((s.advance n).operandByte o) false (BitVec.ofNat 16 n) s (aluA .add n o s) := by
  obtain ⟨h1, h2, h3⟩ := aluA_spec (op := .add) rfl n o s
  refine ⟨?_, ?_, h3⟩
  · rw [h1]; simp [AluOp.apply, add8]
  · simpa [AluOp.apply, add8, ← BitVec.toNat_inj] using h2

theorem addsToA_adc (n : Nat) (o : Operand8) (s : State) :
    AddsToA ((s.advance n).operandByte o) (s.flag .C) (BitVec.ofNat 16 n) s (aluA .adc n o s) := by
  obtain ⟨h1, h2, h3⟩ := aluA_spec (op := .adc) rfl n o s
  refine ⟨?_, ?_, h3⟩
  · rw [h1]; simp [AluOp.apply, add8]
  · simpa [AluOp.apply, add8, ← BitVec.toNat_inj] using h2

/-- `sub8` as the subtraction over the integers. -/
theorem sub8_res (a v : Byte) (cin : Bool) : ((sub8 a v cin).res.toNat : Int) = ((a.toNat : Int) - v.toNat - cin.toNat) % 256 := by
  simp only [sub8, BitVec.toNat_ofInt]
  omega

theorem sub8_z (a v : Byte) (cin : Bool) : (sub8 a v cin).z = true ↔ ((a.toNat : Int) - v.toNat - cin.toNat) % 256 = 0 := by
  rw [← sub8_res]
  simp only [sub8, decide_eq_true_eq, ← BitVec.toNat_inj]
  simp

theorem sub8_n (a v : Byte) (cin : Bool) : (sub8 a v cin).n = true ↔ True := by simp [sub8]

theorem sub8_h (a v : Byte) (cin : Bool) : (sub8 a v cin).h = true ↔
    ((a.toNat % 16 : Nat) : Int) - ((v.toNat % 16 : Nat) : Int) - cin.toNat < 0 := by
  simp only [sub8, decide_eq_true_eq]
  omega

theorem sub8_c (a v : Byte) (cin : Bool) : (sub8 a v cin).c = true ↔ (a.toNat : Int) - v.toNat - cin.toNat < 0 := by
  simp only [sub8, decide_eq_true_eq]
  omega

theorem subsFromA_sub (n : Nat) (o : Operand8) (s : State) :
    SubsFromA ((s.advance n).operandByte o) false (BitVec.ofNat 16 n) s (aluA .sub n o s) := by
  obtain ⟨h1, h2, h3⟩ := aluA_spec (op := .sub) rfl n o s
  refine ⟨by rw [h1]; exact sub8_res _ _ _, ?_, h3⟩
  simp only [AluOp.apply, sub8_z, sub8_n, sub8_h, sub8_c] at h2
  exact h2

theorem subsFromA_sbc (n : Nat) (o : Operand8) (s : State) :
    SubsFromA ((s.advance n).operandByte o) (s.flag .C) (BitVec.ofNat 16 n) s (aluA .sbc n o s) := by
  obtain ⟨h1, h2, h3⟩ := aluA_spec (op := .sbc) rfl n o s
  refine ⟨by rw [h1]; exact sub8_res _ _ _, ?_, h3⟩
  simp only [AluOp.apply, sub8_z, sub8_n, sub8_h, sub8_c] at h2
  exact h2

/-- `aluA` for CP: the flags alone. -/
theorem comparesA_cp (n : Nat) (o : Operand8) (s : State) :
    ComparesA ((s.advance n).operandByte o) (BitVec.ofNat 16 n) s (aluA .cp n o s) := by
  simp only [aluA, State.getThen_eq, AluOp.storesResult, AluOp.apply]
  exact ⟨flagsAre_setFlags _ (sub8_z _ _ _) (sub8_n _ _ _) (sub8_h _ _ _) (sub8_c _ _ _), by simp [RegsKept, dataRegs],
    ⟨fun a => by simp, by simp⟩, apart_trans (apart_advance s n) (apart_setFlags _ _ _ _ _), rfl⟩

theorem logicToA_and (n : Nat) (o : Operand8) (s : State) :
    LogicToA (s.r8 .A &&& (s.advance n).operandByte o) True (BitVec.ofNat 16 n) s (aluA .and n o s) := by
  obtain ⟨h1, h2, h3⟩ := aluA_spec (op := .and) rfl n o s
  refine ⟨h1, ?_, h3⟩
  simp only [AluOp.apply, logic8, decide_eq_true_eq, Bool.false_eq_true] at h2
  exact ⟨h2.1, h2.2.1, h2.2.2.1.trans (by simp), h2.2.2.2⟩

theorem logicToA_xor (n : Nat) (o : Operand8) (s : State) :
    LogicToA (s.r8 .A ^^^ (s.advance n).operandByte o) False (BitVec.ofNat 16 n) s (aluA .xor n o s) := by
  obtain ⟨h1, h2, h3⟩ := aluA_spec (op := .xor) rfl n o s
  exact ⟨h1, by simpa [AluOp.apply, logic8] using h2, h3⟩

theorem logicToA_or (n : Nat) (o : Operand8) (s : State) :
    LogicToA (s.r8 .A ||| (s.advance n).operandByte o) False (BitVec.ofNat 16 n) s (aluA .or n o s) := by
  obtain ⟨h1, h2, h3⟩ := aluA_spec (op := .or) rfl n o s
  exact ⟨h1, by simpa [AluOp.apply, logic8] using h2, h3⟩

/-- `modify` on a register. -/
theorem modify_reg {r : Reg8} (hr : r ∈ dataRegs) (n : Nat) (f : Byte → Bool → Flagged) (s : State) :
    let v := f (s.r8 r) (s.flag .C)
    RegAndFlags r v.res.toNat (v.z = true) (v.n = true) (v.h = true) (v.c = true) (BitVec.ofNat 16 n) s (modify n (.reg r) f s) := by
  have hpc : (s.advance n).r8 r = s.r8 r := by
    simp only [dataRegs, List.mem_cons, List.not_mem_nil, or_false] at hr
    rcases hr with rfl | rfl | rfl | rfl | rfl | rfl | rfl | rfl | rfl <;> simp
  simp only [modify, State.getThen_eq, State.operandByte_reg, State.setOperand, hpc]
  generalize f (s.r8 r) (s.flag .C) = v
  refine ⟨?_, flagsAre_setFlags _ Iff.rfl Iff.rfl Iff.rfl Iff.rfl, ?_, ⟨fun a => by simp, by simp⟩,
    apart_trans (apart_trans (apart_advance s n) (apart_setR8 _ _ _)) (apart_setFlags _ _ _ _ _), ?_⟩
  all_goals
    simp only [dataRegs, List.mem_cons, List.not_mem_nil, or_false] at hr
    rcases hr with rfl | rfl | rfl | rfl | rfl | rfl | rfl | rfl | rfl
  all_goals simp [RegsKept, dataRegs, Falls]

/-- `modify` on memory: the flags come from the byte read. -/
theorem modify_mem (n : Nat) (a : Word) (f : Byte → Bool → Flagged) (s : State) :
    let v := f (s.byte a) (s.flag .C)
    CellAndFlags a v.res.toNat (v.z = true) (v.n = true) (v.h = true) (v.c = true) (BitVec.ofNat 16 n) s (modify n (.mem a) f s) := by
  simp only [modify, State.getThen_eq, State.operandByte_mem, State.setOperand, State.byte_advance]
  generalize f (s.byte a) (s.flag .C) = v
  refine ⟨?_, flagsAre_setFlags _ Iff.rfl Iff.rfl Iff.rfl Iff.rfl, by simp [RegsKept, dataRegs],
    apart_trans (apart_trans (apart_advance s n) (apart_write _ _ _)) (apart_setFlags _ _ _ _ _), by simp [Falls]⟩
  rw [BitVec.ofNat_toNat, BitVec.setWidth_eq]
  exact stored_congr (stored_write (s.advance n) a v.res) rfl rfl rfl rfl

/-! ### Pairs -/

/-- A pair write loads the pair; AF is not written so. -/
theorem loadsPair_setR16 {p : Reg16} (hp : p ∈ [Reg16.BC, .DE, .HL, .SP]) (n : Nat) (v : Word) (s : State) :
    LoadsPair p v (BitVec.ofNat 16 n) s ((s.advance n).setR16 p v) := by
  simp only [List.mem_cons, List.not_mem_nil, or_false] at hp
  rcases hp with rfl | rfl | rfl | rfl
  all_goals
    exact ⟨by simp, by simp [RegsKept, dataRegs, halves], by simp [FlagsKept], ⟨fun a => by simp, by simp⟩,
      apart_trans (apart_advance s n) (apart_setR16 _ _ _), rfl⟩

/-- `push16` is a word store below SP. -/
theorem storedWord_push16 (s : State) (v : Word) : StoredWord (s.sp - 2) v s (s.push16 v) :=
  storedWord_congr (storedWord_writeWord { s with sp := s.sp - 2 } (s.sp - 2) v) rfl rfl rfl rfl

theorem apart_push16 (s : State) (v : Word) : Apart s (s.push16 v) := by
  rw [State.push16_eq]; exact ⟨rfl, rfl, rfl, rfl, rfl, rfl, rfl, rfl, rfl, rfl⟩

@[simp] theorem State.push16_sp (s : State) (v : Word) : (s.push16 v).sp = s.sp - 2 := by rw [State.push16_eq]
@[simp] theorem State.push16_pc (s : State) (v : Word) : (s.push16 v).pc = s.pc := by rw [State.push16_eq]
@[simp] theorem State.push16_af (s : State) (v : Word) : (s.push16 v).af = s.af := by rw [State.push16_eq]
@[simp] theorem State.push16_bc (s : State) (v : Word) : (s.push16 v).bc = s.bc := by rw [State.push16_eq]
@[simp] theorem State.push16_de (s : State) (v : Word) : (s.push16 v).de = s.de := by rw [State.push16_eq]
@[simp] theorem State.push16_hl (s : State) (v : Word) : (s.push16 v).hl = s.hl := by rw [State.push16_eq]

/-- `pushPair` pushes the pair. -/
theorem pushPair_spec (p : Reg16) (s : State) :
    StoredWord (s.sp - 2) (s.r16 p) s (pushPair p s) ∧ (pushPair p s).sp = s.sp - 2 ∧ RegsKept [.SPh, .SPl] s (pushPair p s) ∧
      FlagsKept s (pushPair p s) ∧ Apart s (pushPair p s) ∧ Falls 1 s (pushPair p s) := by
  refine ⟨?_, ?_, ?_, ?_, ?_, ?_⟩
  · exact storedWord_congr (storedWord_push16 (s.advance 1) (s.r16 p)) rfl rfl rfl rfl
  · simp [pushPair]
  · simp [RegsKept, dataRegs, pushPair]
  · simp [FlagsKept, pushPair]
  · exact apart_trans (apart_advance s 1) (apart_push16 _ _)
  · simp [Falls, pushPair]

/-- `popPair` loads the word at SP and moves SP up. -/
theorem popPair_eq (p : Reg16) (s : State) :
    popPair p s = { s.advance 1 with sp := s.sp + 2 }.setR16 p (mkWord (s.byte (s.sp + 1)) (s.byte s.sp)) := by
  rw [popPair, State.popThen_eq]; rfl

/-- `call` pushes the address after the instruction and goes to the target. -/
theorem call_spec (n : Nat) (target : Word) (s : State) :
    StoredWord (s.sp - 2) (s.pc + BitVec.ofNat 16 n) s (call n target s) ∧ (call n target s).sp = s.sp - 2 ∧
      (call n target s).pc = target ∧ RegsKept [.SPh, .SPl] s (call n target s) ∧ FlagsKept s (call n target s) ∧
      Apart s (call n target s) := by
  refine ⟨?_, ?_, ?_, ?_, ?_, ?_⟩
  · exact storedWord_congr (storedWord_push16 (s.advance n) (s.advance n).pc) rfl rfl rfl rfl
  · simp [call]
  · simp [call]
  · simp [RegsKept, dataRegs, call]
  · simp [FlagsKept, call]
  · have h := apart_trans (apart_advance s n) (apart_push16 (s.advance n) (s.advance n).pc)
    exact ⟨h.ime, h.halted, h.cyc, h.fault, h.divAcc, h.timaAcc, h.mode, h.dot, h.fb, h.frames⟩

/-- `ret` pops PC. -/
theorem ret_eq (s : State) : ret s = { s with pc := mkWord (s.byte (s.sp + 1)) (s.byte s.sp), sp := s.sp + 2 } := by
  rw [ret, State.popThen_eq]; rfl

/-- `reti` pops PC and sets IME. -/
theorem reti_eq (s : State) :
    reti s = { s with pc := mkWord (s.byte (s.sp + 1)) (s.byte s.sp), sp := s.sp + 2, ime := true } := by
  rw [reti, State.returnFromInterrupt, State.popThen_eq]; rfl

/-! ### 16-bit arithmetic -/

theorem word_sub_one (v : Word) : v + -1 = v - 1 := by
  rw [BitVec.sub_eq_add_neg]

/-- The conditions the flags say may be rewritten. -/
theorem flagsAre_imp {t : State} {z n h c z' n' h' c' : Prop} (f : FlagsAre t z n h c) (hz : z ↔ z') (hn : n ↔ n') (hh : h ↔ h')
    (hc : c ↔ c') : FlagsAre t z' n' h' c' :=
  ⟨f.1.trans hz, f.2.1.trans hn, f.2.2.1.trans hh, f.2.2.2.1.trans hc, f.2.2.2.2⟩

theorem inc8_spec (v : Byte) (c : Bool) :
    (inc8 v c).res.toNat = (v.toNat + 1) % 256 ∧ ((inc8 v c).z = true ↔ v = 0xFF) ∧ ((inc8 v c).n = true ↔ False) ∧
      ((inc8 v c).h = true ↔ v.toNat % 16 = 15) ∧ ((inc8 v c).c = true ↔ c = true) := by
  revert v c; decide

theorem dec8_spec (v : Byte) (c : Bool) :
    (dec8 v c).res.toNat = (v.toNat + 255) % 256 ∧ ((dec8 v c).z = true ↔ v = 0x01) ∧ ((dec8 v c).n = true ↔ True) ∧
      ((dec8 v c).h = true ↔ v.toNat % 16 = 0) ∧ ((dec8 v c).c = true ↔ c = true) := by
  revert v c; decide

theorem daa8_after_add (a : Byte) (h c : Bool) :
    (daa8 a false h c).res.toNat = (a.toNat + (if h = true ∨ a.toNat % 16 > 9 then 6 else 0)
        + (if c = true ∨ a.toNat > 0x99 then 96 else 0)) % 256 ∧
      ((daa8 a false h c).z = true ↔ (daa8 a false h c).res = 0) ∧ ((daa8 a false h c).n = true ↔ False) ∧
      ((daa8 a false h c).h = true ↔ False) ∧ ((daa8 a false h c).c = true ↔ c = true ∨ a.toNat > 0x99) := by
  revert a h c; decide

theorem daa8_after_sub (a : Byte) (h c : Bool) :
    (daa8 a true h c).res.toNat = (a.toNat + 256 - (if h = true then 6 else 0) - (if c = true then 96 else 0)) % 256 ∧
      ((daa8 a true h c).z = true ↔ (daa8 a true h c).res = 0) ∧ ((daa8 a true h c).n = true ↔ True) ∧
      ((daa8 a true h c).h = true ↔ False) ∧ ((daa8 a true h c).c = true ↔ c = true) := by
  revert a h c; decide

theorem decimalAdjust_spec (s : State) :
    let r := daa8 (s.r8 .A) (s.flag .N) (s.flag .H) (s.flag .C)
    (decimalAdjust s).r8 .A = r.res ∧ FlagsAre (decimalAdjust s) (r.z = true) (r.n = true) (r.h = true) (r.c = true) ∧
      OnlyAAndFlags 1 s (decimalAdjust s) := by
  simp only [decimalAdjust]
  exact ⟨by simp, flagsAre_setFlags _ Iff.rfl Iff.rfl Iff.rfl Iff.rfl, by simp [RegsKept, dataRegs], ⟨fun a => by simp, by simp⟩,
    apart_trans (apart_trans (apart_advance s 1) (apart_setR8 _ _ _)) (apart_setFlags _ _ _ _ _), rfl⟩

/-- `addHL` adds the pair to HL. -/
theorem addHL_spec (p : Reg16) (s : State) :
    (addHL p s).hl.toNat = (s.hl.toNat + (s.r16 p).toNat) % 65536 ∧
      FlagsAre (addHL p s) (s.flag .Z = true) False (s.hl.toNat % 4096 + (s.r16 p).toNat % 4096 > 4095)
        (s.hl.toNat + (s.r16 p).toNat > 65535) ∧
      RegsKept [.H, .L] s (addHL p s) ∧ MemKept s (addHL p s) ∧ Apart s (addHL p s) ∧ Falls 1 s (addHL p s) := by
  rw [addHL]
  refine ⟨by simp, flagsAre_congr (flagsAre_setFlags (s.advance 1) (z := s.flag .Z) (n := false) (h := addHLHalf s.hl (s.r16 p))
    (c := addHLCarry s.hl (s.r16 p)) Iff.rfl (by simp) ?_ ?_) (by simp), by simp [RegsKept, dataRegs], ⟨fun a => by simp, by simp⟩,
    apart_trans (apart_trans (apart_advance s 1) (apart_setFlags _ _ _ _ _)) (apart_setR16 _ _ _), by simp [Falls]⟩
  · simp [addHLHalf]
  · simp [addHLCarry]

/-- What adding a signed byte to SP gives, over the integers. -/
theorem sp_add_sext_toNat (sp : Word) (e : Byte) : ((sp + sext16 e).toNat : Int) = (sp.toNat + e.toInt) % 65536 := by
  have h : ((sext16 e).toNat : Int) = e.toInt % 65536 := by
    revert e; decide
  rw [BitVec.toNat_add]; push_cast; rw [h]; omega

/-- The flags of `spOffsetTo`, into SP or HL. -/
theorem spOffsetTo_spec {p : Reg16} (hp : p = .SP ∨ p = .HL) (e : Byte) (s : State) :
    (spOffsetTo p e s).r16 p = s.sp + sext16 e ∧
      FlagsAre (spOffsetTo p e s) False False (s.sp.toNat % 16 + e.toNat % 16 > 15) (s.sp.toNat % 256 + e.toNat > 255) ∧
      RegsKept (halves p) s (spOffsetTo p e s) ∧ MemKept s (spOffsetTo p e s) ∧ Apart s (spOffsetTo p e s) ∧
      Falls 2 s (spOffsetTo p e s) := by
  rcases hp with rfl | rfl
  all_goals
    rw [spOffsetTo]
    refine ⟨by simp, flagsAre_congr (flagsAre_setFlags (s.advance 2) (z := false) (n := false) (h := spOffsetHalf s.sp e)
      (c := spOffsetCarry s.sp e) (by simp) (by simp) ?_ ?_) (by simp), by simp [RegsKept, dataRegs, halves],
      ⟨fun a => by simp, by simp⟩,
      apart_trans (apart_trans (apart_advance s 2) (apart_setFlags _ _ _ _ _)) (apart_setR16 _ _ _), by simp [Falls]⟩
    · simp [spOffsetHalf]
    · simp [spOffsetCarry]

/-! ### Rotates, shifts and bits -/

theorem shift_res_toNat (f : Shift) (v : Byte) (cin : Bool) : (f.res v cin).toNat = shiftValue f v.toNat cin := by
  revert v cin; cases f <;> decide

theorem shift_cout_iff (f : Shift) (v : Byte) : f.cout v = true ↔ shiftsOut f v.toNat := by
  have h : ∀ v : Byte, (v.getLsbD 7 = true ↔ v.toNat ≥ 128) ∧ (v.getLsbD 0 = true ↔ v.toNat % 2 = 1) := by decide
  cases f
  case swap => simp [Shift.cout, shiftsOut]
  all_goals first | exact (h v).1 | exact (h v).2

theorem rotateA_spec (f : Shift) (s : State) :
    RegAndFlags .A (shiftValue f (s.r8 .A).toNat (s.flag .C)) False False False (shiftsOut f (s.r8 .A).toNat) 1 s (rotateA f s) := by
  rw [rotateA]
  refine ⟨?_, flagsAre_setFlags _ (by simp) (by simp) (by simp) (shift_cout_iff _ _), by simp [RegsKept, dataRegs],
    ⟨fun a => by simp, by simp⟩, apart_trans (apart_trans (apart_advance s 1) (apart_setR8 _ _ _)) (apart_setFlags _ _ _ _ _), rfl⟩
  rw [← shift_res_toNat]; simp

theorem testBit_spec (b : BitVec 3) (o : Operand8) (s : State) :
    FlagsAre (testBit b o s) (((s.advance 2).operandByte o).getLsbD b.toNat = false) False True (s.flag .C = true) ∧
      RegsKept [] s (testBit b o s) ∧ MemKept s (testBit b o s) ∧ Apart s (testBit b o s) ∧ Falls 2 s (testBit b o s) := by
  simp only [testBit, State.getThen_eq]
  exact ⟨flagsAre_setFlags _ (by simp) (by simp) (by simp) Iff.rfl, by simp [RegsKept, dataRegs], ⟨fun a => by simp, by simp⟩,
    apart_trans (apart_advance s 2) (apart_setFlags _ _ _ _ _), rfl⟩

theorem withBit_false (v : Byte) (b : BitVec 3) : v &&& ~~~(BitVec.ofNat 8 (2 ^ b.toNat)) = withBit v b false := by
  have h : ∀ b : BitVec 3, BitVec.ofNat 8 (2 ^ b.toNat) = 1#8 <<< b.toNat := by decide
  rw [h, withBit]; rfl

theorem withBit_true (v : Byte) (b : BitVec 3) : v ||| BitVec.ofNat 8 (2 ^ b.toNat) = withBit v b true := by
  have h : ∀ b : BitVec 3, BitVec.ofNat 8 (2 ^ b.toNat) = 1#8 <<< b.toNat := by decide
  rw [h, withBit]; rfl

/-- Storing into a register operand after the fetch of `n` bytes. -/
theorem loadsReg_setR8 {r : Reg8} (hr : r ∈ dataRegs) (n : Nat) (v : Byte) (s : State) :
    LoadsReg r v (BitVec.ofNat 16 n) s ((s.advance n).setR8 r v) := by
  have := loadsReg_loadReg hr n (.imm v) s
  simpa [Machine.loadReg] using this

end Sys2Proof.Machine
end

