-- ==== Sys2Proof/Tests/Slice0.lean ====
section
/-! SUPPORT. The model's own tests. Every expected value is one that spec/95_test_vectors.md or an encoding table of spec/30_encoding.md gives,
the source named at each; none is the model's own answer. Last, a witness for the hypotheses of every statement that has any. -/

namespace Sys2Proof.Tests

open Sys2Proof.Machine Sys2Proof.Claims

set_option maxRecDepth 4000

/-! ### The smoke test of WellFormed -/

/-- The bare prefix before a byte of the extended map is no instruction (R265). -/
theorem test_bare_prefix_is_ill_formed : WellFormed (.prefixCB 0x00) = false := by decide

/-- An instruction of the extended map is one. -/
theorem test_extended_is_well_formed : WellFormed (.bit_b_atHL 7) = true := by decide

/-! ### Decoding: every row's word, from the bit fields of R101 and the tables of R102, R105 and R106 -/

/-- Every list of bytes decodes to the instruction beside it, with nothing left over. -/
def decodeAs (rows : List (List Byte × Instr)) : Bool :=
  rows.all fun p =>
    match decode p.1 with
    | .ok (i, []) => i == p.2
    | _ => false

/-- The rows of R105 from 0x00 to 0x1F. -/
theorem test_decode_0x00_to_0x1F : decodeAs [
    ([0x00], .nop), ([0x01, 0x34, 0x12], .ld_BC_nn 0x1234), ([0x02], .ld_atBC_A), ([0x03], .inc_BC), ([0x04], .inc_B),
    ([0x05], .dec_B), ([0x06, 0x5A], .ld_B_n 0x5A), ([0x07], .rlca), ([0x08, 0x34, 0x12], .ld_atnn_SP 0x1234),
    ([0x09], .add_HL_BC), ([0x0A], .ld_A_atBC), ([0x0B], .dec_BC), ([0x0C], .inc_C), ([0x0D], .dec_C),
    ([0x0E, 0x5A], .ld_C_n 0x5A), ([0x0F], .rrca), ([0x10, 0x5A], .stop 0x5A), ([0x11, 0x34, 0x12], .ld_DE_nn 0x1234),
    ([0x12], .ld_atDE_A), ([0x13], .inc_DE), ([0x14], .inc_D), ([0x15], .dec_D), ([0x16, 0x5A], .ld_D_n 0x5A), ([0x17], .rla),
    ([0x18, 0x5A], .jr_e 0x5A), ([0x19], .add_HL_DE), ([0x1A], .ld_A_atDE), ([0x1B], .dec_DE), ([0x1C], .inc_E),
    ([0x1D], .dec_E), ([0x1E, 0x5A], .ld_E_n 0x5A), ([0x1F], .rra)] = true := by decide

/-- The rows of R105 from 0x20 to 0x3F. -/
theorem test_decode_0x20_to_0x3F : decodeAs [
    ([0x20, 0x5A], .jr_NZ_e 0x5A), ([0x21, 0x34, 0x12], .ld_HL_nn 0x1234), ([0x22], .ldi_atHL_A), ([0x23], .inc_HL),
    ([0x24], .inc_H), ([0x25], .dec_H), ([0x26, 0x5A], .ld_H_n 0x5A), ([0x27], .daa), ([0x28, 0x5A], .jr_Z_e 0x5A),
    ([0x29], .add_HL_HL), ([0x2A], .ldi_A_atHL), ([0x2B], .dec_HL), ([0x2C], .inc_L), ([0x2D], .dec_L),
    ([0x2E, 0x5A], .ld_L_n 0x5A), ([0x2F], .cpl), ([0x30, 0x5A], .jr_NC_e 0x5A), ([0x31, 0x34, 0x12], .ld_SP_nn 0x1234),
    ([0x32], .ldd_atHL_A), ([0x33], .inc_SP), ([0x34], .inc_atHL), ([0x35], .dec_atHL), ([0x36, 0x5A], .ld_atHL_n 0x5A),
    ([0x37], .scf), ([0x38, 0x5A], .jr_C_e 0x5A), ([0x39], .add_HL_SP), ([0x3A], .ldd_A_atHL), ([0x3B], .dec_SP),
    ([0x3C], .inc_A), ([0x3D], .dec_A), ([0x3E, 0x5A], .ld_A_n 0x5A), ([0x3F], .ccf)] = true := by decide

/-- The rows of R105 from 0x40 to 0x5F. -/
theorem test_decode_0x40_to_0x5F : decodeAs [
    ([0x40], .ld_B_B), ([0x41], .ld_B_C), ([0x42], .ld_B_D), ([0x43], .ld_B_E), ([0x44], .ld_B_H), ([0x45], .ld_B_L),
    ([0x46], .ld_B_atHL), ([0x47], .ld_B_A), ([0x48], .ld_C_B), ([0x49], .ld_C_C), ([0x4A], .ld_C_D), ([0x4B], .ld_C_E),
    ([0x4C], .ld_C_H), ([0x4D], .ld_C_L), ([0x4E], .ld_C_atHL), ([0x4F], .ld_C_A), ([0x50], .ld_D_B), ([0x51], .ld_D_C),
    ([0x52], .ld_D_D), ([0x53], .ld_D_E), ([0x54], .ld_D_H), ([0x55], .ld_D_L), ([0x56], .ld_D_atHL), ([0x57], .ld_D_A),
    ([0x58], .ld_E_B), ([0x59], .ld_E_C), ([0x5A], .ld_E_D), ([0x5B], .ld_E_E), ([0x5C], .ld_E_H), ([0x5D], .ld_E_L),
    ([0x5E], .ld_E_atHL), ([0x5F], .ld_E_A)] = true := by decide

/-- The rows of R105 from 0x60 to 0x7F. -/
theorem test_decode_0x60_to_0x7F : decodeAs [
    ([0x60], .ld_H_B), ([0x61], .ld_H_C), ([0x62], .ld_H_D), ([0x63], .ld_H_E), ([0x64], .ld_H_H), ([0x65], .ld_H_L),
    ([0x66], .ld_H_atHL), ([0x67], .ld_H_A), ([0x68], .ld_L_B), ([0x69], .ld_L_C), ([0x6A], .ld_L_D), ([0x6B], .ld_L_E),
    ([0x6C], .ld_L_H), ([0x6D], .ld_L_L), ([0x6E], .ld_L_atHL), ([0x6F], .ld_L_A), ([0x70], .ld_atHL_B), ([0x71], .ld_atHL_C),
    ([0x72], .ld_atHL_D), ([0x73], .ld_atHL_E), ([0x74], .ld_atHL_H), ([0x75], .ld_atHL_L), ([0x76], .halt),
    ([0x77], .ld_atHL_A), ([0x78], .ld_A_B), ([0x79], .ld_A_C), ([0x7A], .ld_A_D), ([0x7B], .ld_A_E), ([0x7C], .ld_A_H),
    ([0x7D], .ld_A_L), ([0x7E], .ld_A_atHL), ([0x7F], .ld_A_A)] = true := by decide

/-- The rows of R105 from 0x80 to 0x9F. -/
theorem test_decode_0x80_to_0x9F : decodeAs [
    ([0x80], .add_A_B), ([0x81], .add_A_C), ([0x82], .add_A_D), ([0x83], .add_A_E), ([0x84], .add_A_H), ([0x85], .add_A_L),
    ([0x86], .add_A_atHL), ([0x87], .add_A_A), ([0x88], .adc_A_B), ([0x89], .adc_A_C), ([0x8A], .adc_A_D), ([0x8B], .adc_A_E),
    ([0x8C], .adc_A_H), ([0x8D], .adc_A_L), ([0x8E], .adc_A_atHL), ([0x8F], .adc_A_A), ([0x90], .sub_B), ([0x91], .sub_C),
    ([0x92], .sub_D), ([0x93], .sub_E), ([0x94], .sub_H), ([0x95], .sub_L), ([0x96], .sub_atHL), ([0x97], .sub_A),
    ([0x98], .sbc_A_B), ([0x99], .sbc_A_C), ([0x9A], .sbc_A_D), ([0x9B], .sbc_A_E), ([0x9C], .sbc_A_H), ([0x9D], .sbc_A_L),
    ([0x9E], .sbc_A_atHL), ([0x9F], .sbc_A_A)] = true := by decide

/-- The rows of R105 from 0xA0 to 0xBF. -/
theorem test_decode_0xA0_to_0xBF : decodeAs [
    ([0xA0], .and_B), ([0xA1], .and_C), ([0xA2], .and_D), ([0xA3], .and_E), ([0xA4], .and_H), ([0xA5], .and_L),
    ([0xA6], .and_atHL), ([0xA7], .and_A), ([0xA8], .xor_B), ([0xA9], .xor_C), ([0xAA], .xor_D), ([0xAB], .xor_E),
    ([0xAC], .xor_H), ([0xAD], .xor_L), ([0xAE], .xor_atHL), ([0xAF], .xor_A), ([0xB0], .or_B), ([0xB1], .or_C),
    ([0xB2], .or_D), ([0xB3], .or_E), ([0xB4], .or_H), ([0xB5], .or_L), ([0xB6], .or_atHL), ([0xB7], .or_A), ([0xB8], .cp_B),
    ([0xB9], .cp_C), ([0xBA], .cp_D), ([0xBB], .cp_E), ([0xBC], .cp_H), ([0xBD], .cp_L), ([0xBE], .cp_atHL), ([0xBF], .cp_A)] = true := by decide

/-- The rows of R105 from 0xC0 to 0xDF. -/
theorem test_decode_0xC0_to_0xDF : decodeAs [
    ([0xC0], .ret_NZ), ([0xC1], .pop_BC), ([0xC2, 0x34, 0x12], .jp_NZ_nn 0x1234), ([0xC3, 0x34, 0x12], .jp_nn 0x1234),
    ([0xC4, 0x34, 0x12], .call_NZ_nn 0x1234), ([0xC5], .push_BC), ([0xC6, 0x5A], .add_A_n 0x5A), ([0xC7], .rst_00H),
    ([0xC8], .ret_Z), ([0xC9], .ret), ([0xCA, 0x34, 0x12], .jp_Z_nn 0x1234), ([0xCC, 0x34, 0x12], .call_Z_nn 0x1234),
    ([0xCD, 0x34, 0x12], .call_nn 0x1234), ([0xCE, 0x5A], .adc_A_n 0x5A), ([0xCF], .rst_08H), ([0xD0], .ret_NC),
    ([0xD1], .pop_DE), ([0xD2, 0x34, 0x12], .jp_NC_nn 0x1234), ([0xD3], .illegal_D3), ([0xD4, 0x34, 0x12], .call_NC_nn 0x1234),
    ([0xD5], .push_DE), ([0xD6, 0x5A], .sub_n 0x5A), ([0xD7], .rst_10H), ([0xD8], .ret_C), ([0xD9], .reti),
    ([0xDA, 0x34, 0x12], .jp_C_nn 0x1234), ([0xDB], .illegal_DB), ([0xDC, 0x34, 0x12], .call_C_nn 0x1234),
    ([0xDD], .illegal_DD), ([0xDE, 0x5A], .sbc_A_n 0x5A), ([0xDF], .rst_18H)] = true := by decide

/-- The rows of R105 from 0xE0 to 0xFF. -/
theorem test_decode_0xE0_to_0xFF : decodeAs [
    ([0xE0, 0x5A], .ldh_atn_A 0x5A), ([0xE1], .pop_HL), ([0xE2], .ld_atC_A), ([0xE3], .illegal_E3), ([0xE4], .illegal_E4),
    ([0xE5], .push_HL), ([0xE6, 0x5A], .and_n 0x5A), ([0xE7], .rst_20H), ([0xE8, 0x5A], .add_SP_e 0x5A), ([0xE9], .jp_HL),
    ([0xEA, 0x34, 0x12], .ld_atnn_A 0x1234), ([0xEB], .illegal_EB), ([0xEC], .illegal_EC), ([0xED], .illegal_ED),
    ([0xEE, 0x5A], .xor_n 0x5A), ([0xEF], .rst_28H), ([0xF0, 0x5A], .ldh_A_atn 0x5A), ([0xF1], .pop_AF), ([0xF2], .ld_A_atC),
    ([0xF3], .di), ([0xF4], .illegal_F4), ([0xF5], .push_AF), ([0xF6, 0x5A], .or_n 0x5A), ([0xF7], .rst_30H),
    ([0xF8, 0x5A], .ld_HL_SPe 0x5A), ([0xF9], .ld_SP_HL), ([0xFA, 0x34, 0x12], .ld_A_atnn 0x1234), ([0xFB], .ei),
    ([0xFC], .illegal_FC), ([0xFD], .illegal_FD), ([0xFE, 0x5A], .cp_n 0x5A), ([0xFF], .rst_38H)] = true := by decide

/-- The rows of R106 from 0x00 to 0x1F. -/
theorem test_decode_cb_shifts_0x00_to_0x1F : decodeAs [
    ([0xCB, 0x00], .rlc_B), ([0xCB, 0x01], .rlc_C), ([0xCB, 0x02], .rlc_D), ([0xCB, 0x03], .rlc_E), ([0xCB, 0x04], .rlc_H),
    ([0xCB, 0x05], .rlc_L), ([0xCB, 0x06], .rlc_atHL), ([0xCB, 0x07], .rlc_A), ([0xCB, 0x08], .rrc_B), ([0xCB, 0x09], .rrc_C),
    ([0xCB, 0x0A], .rrc_D), ([0xCB, 0x0B], .rrc_E), ([0xCB, 0x0C], .rrc_H), ([0xCB, 0x0D], .rrc_L), ([0xCB, 0x0E], .rrc_atHL),
    ([0xCB, 0x0F], .rrc_A), ([0xCB, 0x10], .rl_B), ([0xCB, 0x11], .rl_C), ([0xCB, 0x12], .rl_D), ([0xCB, 0x13], .rl_E),
    ([0xCB, 0x14], .rl_H), ([0xCB, 0x15], .rl_L), ([0xCB, 0x16], .rl_atHL), ([0xCB, 0x17], .rl_A), ([0xCB, 0x18], .rr_B),
    ([0xCB, 0x19], .rr_C), ([0xCB, 0x1A], .rr_D), ([0xCB, 0x1B], .rr_E), ([0xCB, 0x1C], .rr_H), ([0xCB, 0x1D], .rr_L),
    ([0xCB, 0x1E], .rr_atHL), ([0xCB, 0x1F], .rr_A)] = true := by decide

/-- The rows of R106 from 0x20 to 0x3F. -/
theorem test_decode_cb_shifts_0x20_to_0x3F : decodeAs [
    ([0xCB, 0x20], .sla_B), ([0xCB, 0x21], .sla_C), ([0xCB, 0x22], .sla_D), ([0xCB, 0x23], .sla_E), ([0xCB, 0x24], .sla_H),
    ([0xCB, 0x25], .sla_L), ([0xCB, 0x26], .sla_atHL), ([0xCB, 0x27], .sla_A), ([0xCB, 0x28], .sra_B), ([0xCB, 0x29], .sra_C),
    ([0xCB, 0x2A], .sra_D), ([0xCB, 0x2B], .sra_E), ([0xCB, 0x2C], .sra_H), ([0xCB, 0x2D], .sra_L), ([0xCB, 0x2E], .sra_atHL),
    ([0xCB, 0x2F], .sra_A), ([0xCB, 0x30], .swap_B), ([0xCB, 0x31], .swap_C), ([0xCB, 0x32], .swap_D), ([0xCB, 0x33], .swap_E),
    ([0xCB, 0x34], .swap_H), ([0xCB, 0x35], .swap_L), ([0xCB, 0x36], .swap_atHL), ([0xCB, 0x37], .swap_A),
    ([0xCB, 0x38], .srl_B), ([0xCB, 0x39], .srl_C), ([0xCB, 0x3A], .srl_D), ([0xCB, 0x3B], .srl_E), ([0xCB, 0x3C], .srl_H),
    ([0xCB, 0x3D], .srl_L), ([0xCB, 0x3E], .srl_atHL), ([0xCB, 0x3F], .srl_A)] = true := by decide

/-- BIT, RES and SET on every operand of R106, and the corners of the bit number. -/
theorem test_decode_cb_bits : decodeAs [
    ([0xCB, 0x56], .bit_b_atHL 2), ([0xCB, 0x68], .bit_b_B 5), ([0xCB, 0x69], .bit_b_C 5), ([0xCB, 0x6A], .bit_b_D 5),
    ([0xCB, 0x6B], .bit_b_E 5), ([0xCB, 0x6C], .bit_b_H 5), ([0xCB, 0x6D], .bit_b_L 5), ([0xCB, 0x6F], .bit_b_A 5),
    ([0xCB, 0x96], .res_b_atHL 2), ([0xCB, 0xA8], .res_b_B 5), ([0xCB, 0xA9], .res_b_C 5), ([0xCB, 0xAA], .res_b_D 5),
    ([0xCB, 0xAB], .res_b_E 5), ([0xCB, 0xAC], .res_b_H 5), ([0xCB, 0xAD], .res_b_L 5), ([0xCB, 0xAF], .res_b_A 5),
    ([0xCB, 0xD6], .set_b_atHL 2), ([0xCB, 0xE8], .set_b_B 5), ([0xCB, 0xE9], .set_b_C 5), ([0xCB, 0xEA], .set_b_D 5),
    ([0xCB, 0xEB], .set_b_E 5), ([0xCB, 0xEC], .set_b_H 5), ([0xCB, 0xED], .set_b_L 5), ([0xCB, 0xEF], .set_b_A 5),
    ([0xCB, 0x40], .bit_b_B 0), ([0xCB, 0x7F], .bit_b_A 7), ([0xCB, 0x81], .res_b_C 0), ([0xCB, 0xBE], .res_b_atHL 7),
    ([0xCB, 0xC6], .set_b_atHL 0), ([0xCB, 0xCB], .set_b_E 1), ([0xCB, 0xFD], .set_b_L 7), ([0xCB, 0x66], .bit_b_atHL 4)] = true := by decide

/-- A second byte that is missing is refused by name (R112). -/
theorem test_decode_truncated : decode [0xCB] = .error .truncated ∧ decode [0x01, 0x34] = .error .truncated ∧ decode [] = .error .truncated := by
  exact ⟨rfl, rfl, rfl⟩

/-- Of a table word: 16 bits with 0xCB above are the prefix and its second byte; others start at bit 0 (30_encoding.md, opening). -/
theorem test_decodeTableWord :
    decodeTableWord 16 0xCB37 = some .swap_A ∧ decodeTableWord 8 0x87 = some .add_A_A ∧ decodeTableWord 24 0x123401 = some (.ld_BC_nn 0x1234) := by
  decide

/-! ### Instructions: one CpuStep each (95_test_vectors.md 2.1) -/

/-- The bytes `code` at PC run as one CpuStep, cost `cyc` and leave a state with property `p`. -/
def ran (s : State) (code : List Byte) (cyc : Nat) (p : State → Bool) : Bool :=
  match cpuStep (((s.load s.pc (code.getD 0 0)).load (s.pc + 1) (code.getD 1 0)).load (s.pc + 2) (code.getD 2 0)) with
  | .next (t, c) => c == cyc && p t
  | _ => false

/-- V1 (R130): `LD B,A`. -/
theorem test_ld_B_A : ran { State.reset with af := 0x5AF0 } [0x47] 4
    (fun t => t.r8 .B == 0x5A && t.r8 .F == 0xF0 && t.pc == 0x0001) = true := by decide

/-- V3 (R131): `LD E,0x9C`. -/
theorem test_ld_E_n : ran State.reset [0x1E, 0x9C] 8 (fun t => t.r8 .E == 0x9C && t.r8 .F == 0x00 && t.pc == 0x0002) = true := by decide

/-- V5 (R132): `LD L,(HL)`. -/
theorem test_ld_L_atHL_from_its_own_address : ran { State.reset with hl := 0xC010, mem := [(0xC010, 0x99)] } [0x6E] 8
    (fun t => t.r8 .L == 0x99 && t.r8 .F == 0x00 && t.pc == 0x0001) = true := by decide

/-- V6 (R133): `LD (HL),B`. -/
theorem test_ld_atHL_B_to_cartridge : ran { State.reset with hl := 0x4000, bc := 0x5500 } [0x70] 8
    (fun t => t.r8 .F == 0x00 && t.pc == 0x0001 && t.byte 0x4000 == 0x00) = true := by decide

/-- V7 (R133): `LD (HL),H`. -/
theorem test_ld_atHL_H : ran { State.reset with hl := 0xC1C2 } [0x74] 8
    (fun t => t.r8 .F == 0x00 && t.pc == 0x0001 && t.byte 0xC1C2 == 0xC1) = true := by decide

/-- V8 (R134): `LD (HL),0x3C`. -/
theorem test_ld_atHL_n_to_LY : ran { State.reset with hl := 0xFF44 } [0x36, 0x3C] 12
    (fun t => t.r8 .F == 0x00 && t.pc == 0x0002 && t.byte 0xFF44 == 0x00) = true := by decide

/-- V9 (R135): `LD A,(BC)`. -/
theorem test_ld_A_atBC_through_echo : ran { State.reset with bc := 0xE005, mem := [(0xC005, 0x42)] } [0x0A] 8
    (fun t => t.r8 .A == 0x42 && t.r8 .F == 0x00 && t.pc == 0x0001) = true := by decide

/-- V10 (R138): `LD (DE),A`. -/
theorem test_ld_atDE_A_to_IF : ran { State.reset with de := 0xFF0F, af := 0x0500 } [0x12] 8
    (fun t => t.r8 .F == 0x00 && t.pc == 0x0001 && t.byte 0xFF0F == 0xE5) = true := by decide

/-- V11 (R139): `LD A,(0xFF0F)`. -/
theorem test_ld_A_atnn : ran State.reset [0xFA, 0x0F, 0xFF] 16
    (fun t => t.r8 .A == 0xE0 && t.r8 .F == 0x00 && t.pc == 0x0003) = true := by decide

/-- V12 (R140): `LD (0xDFFF),A`. -/
theorem test_ld_atnn_A : ran { State.reset with af := 0xA700 } [0xEA, 0xFF, 0xDF] 16
    (fun t => t.r8 .F == 0x00 && t.pc == 0x0003 && t.byte 0xDFFF == 0xA7) = true := by decide

/-- V13 (R141): `LDH A,(0x80)`. -/
theorem test_ldh_A_atn : ran { State.reset with mem := [(0xFF80, 0x33)] } [0xF0, 0x80] 12
    (fun t => t.r8 .A == 0x33 && t.r8 .F == 0x00 && t.pc == 0x0002) = true := by decide

/-- V14 (R142): `LDH (0x02),A`. -/
theorem test_ldh_atn_A_to_SC : ran { State.reset with af := 0x8100, mem := [(0xFF01, 0x41)] } [0xE0, 0x02] 12
    (fun t => t.r8 .F == 0x00 && t.pc == 0x0002 && t.byte 0xFF02 == 0x81 && t.diags == [0x41]) = true := by decide

/-- V15 (R143): `LD A,(C)`. -/
theorem test_ld_A_atC_of_IE : ran { State.reset with bc := 0x00FF, mem := [(0xFFFF, 0x1F)] } [0xF2] 8
    (fun t => t.r8 .A == 0x1F && t.r8 .F == 0x00 && t.pc == 0x0001) = true := by decide

/-- V16 (R144): `LD (C),A`. -/
theorem test_ld_atC_A : ran { State.reset with bc := 0x0047, af := 0xE400 } [0xE2] 8
    (fun t => t.r8 .F == 0x00 && t.pc == 0x0001 && t.byte 0xFF47 == 0xE4) = true := by decide

/-- V17 (R145): `LDI (HL),A`. -/
theorem test_ldi_atHL_A_wraps : ran { State.reset with hl := 0xFFFF, af := 0x1100 } [0x22] 8
    (fun t => t.r8 .H == 0x00 && t.r8 .L == 0x00 && t.r8 .F == 0x00 && t.pc == 0x0001 && t.byte 0xFFFF == 0x11) = true := by decide

/-- V18 (R146): `LDI A,(HL)`. -/
theorem test_ldi_A_atHL : ran { State.reset with hl := 0xC0FF, mem := [(0xC0FF, 0x66)] } [0x2A] 8
    (fun t => t.r8 .A == 0x66 && t.r8 .H == 0xC1 && t.r8 .L == 0x00 && t.r8 .F == 0x00 && t.pc == 0x0001) = true := by decide

/-- V19 (R147): `LDD (HL),A`. -/
theorem test_ldd_atHL_A_wraps : ran { State.reset with hl := 0x0000, af := 0x1100 } [0x32] 8
    (fun t => t.r8 .H == 0xFF && t.r8 .L == 0xFF && t.r8 .F == 0x00 && t.pc == 0x0001) = true := by decide

/-- V20 (R148): `LDD A,(HL)`. -/
theorem test_ldd_A_atHL : ran { State.reset with hl := 0xC100, mem := [(0xC100, 0x21)] } [0x3A] 8
    (fun t => t.r8 .A == 0x21 && t.r8 .H == 0xC0 && t.r8 .L == 0xFF && t.r8 .F == 0x00 && t.pc == 0x0001) = true := by decide

/-- V21 (R150): `LD BC,0x1234`. -/
theorem test_ld_BC_nn : ran State.reset [0x01, 0x34, 0x12] 12
    (fun t => t.r8 .B == 0x12 && t.r8 .C == 0x34 && t.r8 .F == 0x00 && t.pc == 0x0003) = true := by decide

/-- V22 (R150): `LD SP,0xFFFE`. -/
theorem test_ld_SP_nn : ran State.reset [0x31, 0xFE, 0xFF] 12
    (fun t => t.r8 .F == 0x00 && t.sp == 0xFFFE && t.pc == 0x0003) = true := by decide

/-- V23 (R151): `LD (0xC100),SP`. -/
theorem test_ld_atnn_SP : ran { State.reset with sp := 0xABCD } [0x08, 0x00, 0xC1] 20
    (fun t => t.r8 .F == 0x00 && t.pc == 0x0003 && t.byte 0xC100 == 0xCD && t.byte 0xC101 == 0xAB) = true := by decide

/-- V24 (R152): `LD SP,HL`. -/
theorem test_ld_SP_HL : ran { State.reset with hl := 0xD000 } [0xF9] 8
    (fun t => t.r8 .F == 0x00 && t.sp == 0xD000 && t.pc == 0x0001) = true := by decide

/-- V25 (R153): `PUSH BC`. -/
theorem test_push_BC : ran { State.reset with bc := 0x1234, sp := 0xD000 } [0xC5] 16
    (fun t => t.r8 .F == 0x00 && t.sp == 0xCFFE && t.pc == 0x0001 && t.byte 0xCFFE == 0x34 && t.byte 0xCFFF == 0x12) = true := by decide

/-- V26 (R153): `PUSH AF`. -/
theorem test_push_AF_wraps : ran { State.reset with af := 0x12F0, sp := 0x0001 } [0xF5] 16
    (fun t => t.r8 .F == 0xF0 && t.sp == 0xFFFF && t.pc == 0x0001 && t.byte 0xFFFF == 0xF0 && t.byte 0x0000 == 0xF5) = true := by decide

/-- V27 (R154): `POP DE`. -/
theorem test_pop_DE : ran { State.reset with sp := 0xC000, mem := [(0xC000, 0xCD), (0xC001, 0xAB)] } [0xD1] 12
    (fun t => t.r8 .D == 0xAB && t.r8 .E == 0xCD && t.r8 .F == 0x00 && t.sp == 0xC002 && t.pc == 0x0001) = true := by decide

/-- V28 (R155): `POP AF`. -/
theorem test_pop_AF_masks : ran { State.reset with sp := 0xC000, mem := [(0xC000, 0xFF), (0xC001, 0x12)] } [0xF1] 12
    (fun t => t.r8 .A == 0x12 && t.r8 .F == 0xF0 && t.sp == 0xC002 && t.pc == 0x0001) = true := by decide

/-- V31 (R163): `ADD A,B`. -/
theorem test_add_A_B : ran { State.reset with af := 0x3A00, bc := 0xC600 } [0x80] 4
    (fun t => t.r8 .A == 0x00 && t.r8 .F == 0xB0 && t.pc == 0x0001) = true := by decide

/-- V33 (R164): `ADD A,(HL)`. -/
theorem test_add_A_atHL : ran { State.reset with af := 0x0800, hl := 0xC000, mem := [(0xC000, 0x08)] } [0x86] 8
    (fun t => t.r8 .A == 0x10 && t.r8 .F == 0x20 && t.pc == 0x0001) = true := by decide

/-- V36 (R168): `ADC A,0xFF`. -/
theorem test_adc_A_n : ran { State.reset with af := 0x0010 } [0xCE, 0xFF] 8
    (fun t => t.r8 .F == 0xB0 && t.pc == 0x0002) = true := by decide

/-- V40 (R170): `SUB (HL)`. -/
theorem test_sub_atHL : ran { State.reset with af := 0x3E00, hl := 0xC000, mem := [(0xC000, 0x40)] } [0x96] 8
    (fun t => t.r8 .A == 0xFE && t.r8 .F == 0x50 && t.pc == 0x0001) = true := by decide

/-- V42 (R174): `SBC A,0xFF`. -/
theorem test_sbc_A_n : ran { State.reset with af := 0x0010 } [0xDE, 0xFF] 8
    (fun t => t.r8 .F == 0xF0 && t.pc == 0x0002) = true := by decide

/-- V43 (R172): `SBC A,B`. -/
theorem test_sbc_A_B : ran { State.reset with af := 0x1010, bc := 0x0F00 } [0x98] 4
    (fun t => t.r8 .A == 0x00 && t.r8 .F == 0xE0 && t.pc == 0x0001) = true := by decide

/-- V44 (R175): `AND L`. -/
theorem test_and_L : ran { State.reset with af := 0x5A50, hl := 0x003F } [0xA5] 4
    (fun t => t.r8 .A == 0x1A && t.r8 .F == 0x20 && t.pc == 0x0001) = true := by decide

/-- V46 (R178): `XOR A`. -/
theorem test_xor_A : ran { State.reset with af := 0x77F0 } [0xAF] 4
    (fun t => t.r8 .A == 0x00 && t.r8 .F == 0x80 && t.pc == 0x0001) = true := by decide

/-- V48 (R181): `OR C`. -/
theorem test_or_C : ran { State.reset with af := 0x0070, bc := 0x0000 } [0xB1] 4
    (fun t => t.r8 .F == 0x80 && t.pc == 0x0001) = true := by decide

/-- V52 (R185): `CP (HL)`. -/
theorem test_cp_atHL : ran { State.reset with af := 0x3C00, hl := 0xC000, mem := [(0xC000, 0x40)] } [0xBE] 8
    (fun t => t.r8 .F == 0x50 && t.pc == 0x0001) = true := by decide

/-- V53 (R187): `INC B`. -/
theorem test_inc_B : ran { State.reset with bc := 0xFF00, af := 0x0010 } [0x04] 4
    (fun t => t.r8 .B == 0x00 && t.r8 .F == 0xB0 && t.pc == 0x0001) = true := by decide

/-- V55 (R188): `INC (HL)`. -/
theorem test_inc_atHL : ran { State.reset with hl := 0xC000, mem := [(0xC000, 0x50)] } [0x34] 12
    (fun t => t.r8 .F == 0x00 && t.pc == 0x0001 && t.byte 0xC000 == 0x51) = true := by decide

/-- V57 (R189): `DEC C`. -/
theorem test_dec_C : ran { State.reset with bc := 0x0000, af := 0x0010 } [0x0D] 4
    (fun t => t.r8 .C == 0xFF && t.r8 .F == 0x70 && t.pc == 0x0001) = true := by decide

/-- V58 (R190): `DEC (HL)`. -/
theorem test_dec_atHL : ran { State.reset with hl := 0xC000, mem := [(0xC000, 0x10)] } [0x35] 12
    (fun t => t.r8 .F == 0x60 && t.pc == 0x0001 && t.byte 0xC000 == 0x0F) = true := by decide

/-- V60 (R191): `DAA`. -/
theorem test_daa_after_add : ran { State.reset with af := 0x9A00 } [0x27] 4
    (fun t => t.r8 .A == 0x00 && t.r8 .F == 0x90 && t.pc == 0x0001) = true := by decide

/-- V61 (R191): `DAA`. -/
theorem test_daa_after_sub : ran { State.reset with af := 0x4B60 } [0x27] 4
    (fun t => t.r8 .A == 0x45 && t.r8 .F == 0x40 && t.pc == 0x0001) = true := by decide

/-- V64 (R192): `CPL`. -/
theorem test_cpl : ran { State.reset with af := 0x3590 } [0x2F] 4
    (fun t => t.r8 .A == 0xCA && t.r8 .F == 0xF0 && t.pc == 0x0001) = true := by decide

/-- V65 (R193): `SCF`. -/
theorem test_scf : ran { State.reset with af := 0x00E0 } [0x37] 4 (fun t => t.r8 .F == 0x90 && t.pc == 0x0001) = true := by decide

/-- V66 (R194): `CCF`. -/
theorem test_ccf : ran { State.reset with af := 0x00F0 } [0x3F] 4 (fun t => t.r8 .F == 0x80 && t.pc == 0x0001) = true := by decide

/-- V68 (R201): `ADD HL,BC`. -/
theorem test_add_HL_BC : ran { State.reset with hl := 0x8A23, bc := 0x0605, af := 0x0080 } [0x09] 8
    (fun t => t.r8 .H == 0x90 && t.r8 .L == 0x28 && t.r8 .F == 0xA0 && t.pc == 0x0001) = true := by decide

/-- V69 (R201): `ADD HL,HL`. -/
theorem test_add_HL_HL : ran { State.reset with hl := 0x8A23, af := 0x00C0 } [0x29] 8
    (fun t => t.r8 .H == 0x14 && t.r8 .L == 0x46 && t.r8 .F == 0xB0 && t.pc == 0x0001) = true := by decide

/-- V72 (R202): `INC DE`. -/
theorem test_inc_DE_wraps : ran { State.reset with de := 0xFFFF, af := 0x00F0 } [0x13] 8
    (fun t => t.r8 .D == 0x00 && t.r8 .E == 0x00 && t.r8 .F == 0xF0 && t.pc == 0x0001) = true := by decide

/-- V74 (R203): `DEC SP`. -/
theorem test_dec_SP_wraps : ran { State.reset with sp := 0x0000 } [0x3B] 8
    (fun t => t.r8 .F == 0x00 && t.sp == 0xFFFF && t.pc == 0x0001) = true := by decide

/-- V75 (R204): `ADD SP,+2`. -/
theorem test_add_SP_e : ran { State.reset with sp := 0xFFF8, af := 0x00F0 } [0xE8, 0x02] 16
    (fun t => t.r8 .F == 0x00 && t.sp == 0xFFFA && t.pc == 0x0002) = true := by decide

/-- V76 (R204): `ADD SP,-1`. -/
theorem test_add_SP_e_negative : ran { State.reset with sp := 0x0001 } [0xE8, 0xFF] 16
    (fun t => t.r8 .F == 0x30 && t.sp == 0x0000 && t.pc == 0x0002) = true := by decide

/-- V80 (R205): `LD HL,SP-128`. -/
theorem test_ld_HL_SPe : ran { State.reset with sp := 0x0100, hl := 0x1234 } [0xF8, 0x80] 12
    (fun t => t.r8 .H == 0x00 && t.r8 .L == 0x80 && t.r8 .F == 0x00 && t.pc == 0x0002) = true := by decide

/-- V81 (R211): `JP 0x8000`. -/
theorem test_jp_nn : ran State.reset [0xC3, 0x00, 0x80] 16 (fun t => t.r8 .F == 0x00 && t.pc == 0x8000) = true := by decide

/-- V82 (R212): `JP NZ,0x1234`. -/
theorem test_jp_NZ_not_taken : ran { State.reset with af := 0x0080 } [0xC2, 0x34, 0x12] 12
    (fun t => t.r8 .F == 0x80 && t.pc == 0x0003) = true := by decide

/-- V83 (R212): `JP C,0x1234`. -/
theorem test_jp_C_taken : ran { State.reset with af := 0x0010 } [0xDA, 0x34, 0x12] 16
    (fun t => t.r8 .F == 0x10 && t.pc == 0x1234) = true := by decide

/-- V84 (R213): `JP HL`. -/
theorem test_jp_HL : ran { State.reset with hl := 0xC000 } [0xE9] 4 (fun t => t.r8 .F == 0x00 && t.pc == 0xC000) = true := by decide

/-- V86 (R214): `JR -3`. -/
theorem test_jr_e_wraps : ran State.reset [0x18, 0xFD] 12 (fun t => t.r8 .F == 0x00 && t.pc == 0xFFFF) = true := by decide

/-- V87 (R215): `JR Z,+5`. -/
theorem test_jr_Z_taken : ran { State.reset with af := 0x0080 } [0x28, 0x05] 12
    (fun t => t.r8 .F == 0x80 && t.pc == 0x0007) = true := by decide

/-- V88 (R215): `JR NC,+5`. -/
theorem test_jr_NC_not_taken : ran { State.reset with af := 0x0010 } [0x30, 0x05] 8
    (fun t => t.r8 .F == 0x10 && t.pc == 0x0002) = true := by decide

/-- V90 (R216): `CALL 0x1234`. -/
theorem test_call_nn : ran { State.reset with sp := 0xFFFE } [0xCD, 0x34, 0x12] 24
    (fun t => t.r8 .F == 0x00 && t.sp == 0xFFFC && t.pc == 0x1234 && t.byte 0xFFFC == 0x03 && t.byte 0xFFFD == 0x00) = true := by decide

/-- V91 (R217): `CALL Z,0x1234`. -/
theorem test_call_Z_not_taken : ran { State.reset with sp := 0xFFFE, af := 0x0000 } [0xCC, 0x34, 0x12] 12
    (fun t => t.r8 .F == 0x00 && t.pc == 0x0003 && t.byte 0xFFFC == 0x00 && t.byte 0xFFFD == 0x00) = true := by decide

/-- V92 (R217): `CALL NC,0x1234`. -/
theorem test_call_NC_taken : ran { State.reset with sp := 0xD000, af := 0x0000 } [0xD4, 0x34, 0x12] 24
    (fun t => t.r8 .F == 0x00 && t.sp == 0xCFFE && t.pc == 0x1234 && t.byte 0xCFFE == 0x03 && t.byte 0xCFFF == 0x00) = true := by decide

/-- V93 (R218): `RET`. -/
theorem test_ret : ran { State.reset with sp := 0xC000, mem := [(0xC000, 0x03), (0xC001, 0x80)] } [0xC9] 16
    (fun t => t.r8 .F == 0x00 && t.sp == 0xC002 && t.pc == 0x8003) = true := by decide

/-- V94 (R219): `RET C`. -/
theorem test_ret_C_not_taken : ran { State.reset with sp := 0xC000, af := 0x0000, mem := [(0xC000, 0x03), (0xC001, 0x80)] } [0xD8] 8
    (fun t => t.r8 .F == 0x00 && t.pc == 0x0001) = true := by decide

/-- V95 (R219): `RET NZ`. -/
theorem test_ret_NZ_taken : ran { State.reset with sp := 0xC000, af := 0x0000, mem := [(0xC000, 0x03), (0xC001, 0x80)] } [0xC0] 20
    (fun t => t.r8 .F == 0x00 && t.sp == 0xC002 && t.pc == 0x8003) = true := by decide

/-- V96 (R220): `RETI`. -/
theorem test_reti : ran { State.reset with sp := 0xC000, ime := false, mem := [(0xC000, 0x15)] } [0xD9] 16
    (fun t => t.r8 .F == 0x00 && t.sp == 0xC002 && t.pc == 0x0015 && t.ime) = true := by decide

/-- V97 (R221): `RST 0x28`. -/
theorem test_rst_28H : ran { State.reset with pc := 0x0150, sp := 0xD000 } [0xEF] 16
    (fun t => t.r8 .F == 0x00 && t.sp == 0xCFFE && t.pc == 0x0028 && t.byte 0xCFFE == 0x51 && t.byte 0xCFFF == 0x01) = true := by decide

/-- V99 (R232): `RLCA`. -/
theorem test_rlca : ran { State.reset with af := 0x85E0 } [0x07] 4
    (fun t => t.r8 .A == 0x0B && t.r8 .F == 0x10 && t.pc == 0x0001) = true := by decide

/-- V100 (R233): `RLA`. -/
theorem test_rla : ran { State.reset with af := 0x8000 } [0x17] 4
    (fun t => t.r8 .A == 0x00 && t.r8 .F == 0x10 && t.pc == 0x0001) = true := by decide

/-- V101 (R234): `RRCA`. -/
theorem test_rrca : ran { State.reset with af := 0x0100 } [0x0F] 4
    (fun t => t.r8 .A == 0x80 && t.r8 .F == 0x10 && t.pc == 0x0001) = true := by decide

/-- V102 (R235): `RRA`. -/
theorem test_rra : ran { State.reset with af := 0x0110 } [0x1F] 4
    (fun t => t.r8 .A == 0x80 && t.r8 .F == 0x10 && t.pc == 0x0001) = true := by decide

/-- V104 (R236): `RLC A`. -/
theorem test_rlc_A : ran { State.reset with af := 0x0010 } [0xCB, 0x07] 8 (fun t => t.r8 .F == 0x80 && t.pc == 0x0002) = true := by decide

/-- V105 (R239): `RRC (HL)`. -/
theorem test_rrc_atHL : ran { State.reset with hl := 0xC000, mem := [(0xC000, 0x01)] } [0xCB, 0x0E] 16
    (fun t => t.r8 .F == 0x10 && t.pc == 0x0002 && t.byte 0xC000 == 0x80) = true := by decide

/-- V106 (R240): `RL C`. -/
theorem test_rl_C : ran { State.reset with bc := 0x0080, af := 0x0000 } [0xCB, 0x11] 8
    (fun t => t.r8 .C == 0x00 && t.r8 .F == 0x90 && t.pc == 0x0002) = true := by decide

/-- V107 (R242): `RR D`. -/
theorem test_rr_D : ran { State.reset with de := 0x0100, af := 0x0010 } [0xCB, 0x1A] 8
    (fun t => t.r8 .D == 0x80 && t.r8 .F == 0x10 && t.pc == 0x0002) = true := by decide

/-- V108 (R244): `SLA E`. -/
theorem test_sla_E : ran { State.reset with de := 0x00FF } [0xCB, 0x23] 8
    (fun t => t.r8 .E == 0xFE && t.r8 .F == 0x10 && t.pc == 0x0002) = true := by decide

/-- V109 (R246): `SRA H`. -/
theorem test_sra_H : ran { State.reset with hl := 0x8100 } [0xCB, 0x2C] 8
    (fun t => t.r8 .H == 0xC0 && t.r8 .F == 0x10 && t.pc == 0x0002) = true := by decide

/-- V110 (R248): `SWAP L`. -/
theorem test_swap_L : ran { State.reset with hl := 0x00F1, af := 0x0010 } [0xCB, 0x35] 8
    (fun t => t.r8 .L == 0x1F && t.r8 .F == 0x00 && t.pc == 0x0002) = true := by decide

/-- V112 (R251): `SRL (HL)`. -/
theorem test_srl_atHL : ran { State.reset with hl := 0xC000, mem := [(0xC000, 0x01)] } [0xCB, 0x3E] 16
    (fun t => t.r8 .F == 0x90 && t.pc == 0x0002 && t.byte 0xC000 == 0x00) = true := by decide

/-- V113 (R252): `BIT 7,A`. -/
theorem test_bit_7_A : ran { State.reset with af := 0x8050 } [0xCB, 0x7F] 8
    (fun t => t.r8 .F == 0x30 && t.pc == 0x0002) = true := by decide

/-- V115 (R253): `BIT 4,(HL)`. -/
theorem test_bit_4_atHL : ran { State.reset with hl := 0xFF0F } [0xCB, 0x66] 12
    (fun t => t.r8 .F == 0xA0 && t.pc == 0x0002 && t.byte 0xFF0F == 0xE0) = true := by decide

/-- V116 (R254): `RES 0,C`. -/
theorem test_res_0_C : ran { State.reset with bc := 0x00FF, af := 0x00F0 } [0xCB, 0x81] 8
    (fun t => t.r8 .C == 0xFE && t.r8 .F == 0xF0 && t.pc == 0x0002) = true := by decide

/-- V117 (R255): `RES 7,(HL)`. -/
theorem test_res_7_atHL_of_IF : ran { State.reset with hl := 0xFF0F } [0xCB, 0xBE] 16
    (fun t => t.r8 .F == 0x00 && t.pc == 0x0002 && t.byte 0xFF0F == 0xE0) = true := by decide

/-- V118 (R256): `SET 3,D`. -/
theorem test_set_3_D : ran { State.reset with de := 0x0000 } [0xCB, 0xDA] 8
    (fun t => t.r8 .D == 0x08 && t.r8 .F == 0x00 && t.pc == 0x0002) = true := by decide

/-- V119 (R257): `SET 0,(HL)`. -/
theorem test_set_0_atHL_of_LY : ran { State.reset with hl := 0xFF44 } [0xCB, 0xC6] 16
    (fun t => t.r8 .F == 0x00 && t.pc == 0x0002 && t.byte 0xFF44 == 0x00) = true := by decide

/-- V121 (R260): `NOP`. -/
theorem test_nop : ran { State.reset with af := 0x00F0 } [0x00] 4 (fun t => t.r8 .F == 0xF0 && t.pc == 0x0001) = true := by decide

/-- V122 (R261): `HALT`. -/
theorem test_halt : ran State.reset [0x76] 4 (fun t => t.r8 .F == 0x00 && t.pc == 0x0001 && t.halted) = true := by decide

/-- V123 (R262): `STOP`. -/
theorem test_stop : ran State.reset [0x10, 0x00] 0
    (fun t => t.r8 .F == 0x00 && t.pc == 0x0001 && t.fault == some (.unimplementedOpcode 0x10 0x0000)) = true := by decide

/-- V124 (R263): `DI`. -/
theorem test_di : ran { State.reset with ime := true } [0xF3] 4 (fun t => t.r8 .F == 0x00 && t.pc == 0x0001 && !t.ime) = true := by decide

/-- V125 (R264): `EI`. -/
theorem test_ei : ran { State.reset with ime := false } [0xFB] 4 (fun t => t.r8 .F == 0x00 && t.pc == 0x0001 && t.ime) = true := by decide

/-- V126 (R266): `(illegal 0xD3)`. -/
theorem test_illegal_D3 : ran State.reset [0xD3] 0
    (fun t => t.r8 .F == 0x00 && t.pc == 0x0001 && t.fault == some (.unimplementedOpcode 0xD3 0x0000)) = true := by decide

/-- V127 (R266): `(illegal 0xFD)`. -/
theorem test_illegal_FD : ran { State.reset with pc := 0xC000 } [0xFD] 0
    (fun t => t.r8 .F == 0x00 && t.pc == 0xC001 && t.fault == some (.unimplementedOpcode 0xFD 0xC000)) = true := by decide

/-! ### Bus, timer, graphics and interrupts (95_test_vectors.md 2.2 to 2.6) -/

/-- B7, B8: the last echoed byte, and the first byte of work RAM without an echo. -/
theorem test_echo_bounds : (State.reset.write 0xDDFF 0x5C).byte 0xFDFF = 0x5C ∧ (State.reset.write 0xDE00 0x77).byte 0xFE00 = 0x00 := by
  decide

/-- B15, B16: a word across the end of work RAM, and one that ends on LY. -/
theorem test_word_sides :
    (State.reset.writeWord 0xDFFF 0xBEEF).byte 0xDFFF = 0xEF ∧ (State.reset.writeWord 0xDFFF 0xBEEF).byte 0xC000 = 0xBE ∧
      (State.reset.writeWord 0xFF43 0xAABB).byte 0xFF43 = 0xBB ∧ (State.reset.writeWord 0xFF43 0xAABB).byte 0xFF44 = 0x00 := by
  decide

/-- B11 to B13: the two characters "Hi", and no event for 0x80. -/
theorem test_diagnostics :
    (((((State.reset.write 0xFF01 0x48).write 0xFF02 0x80).write 0xFF02 0x81).write 0xFF01 0x69).write 0xFF02 0x81).diags = [0x48, 0x69] := by
  decide

/-- M1: the threshold must be exceeded, and two increments can fall in one step. -/
theorem test_timer_two_increments :
    let s := timerStep 24 (timerStep 12 (timerStep 4 (timerStep 16 { State.reset with mem := [(0xFF07, 0x05)] })))
    s.byte 0xFF05 = 0x03 ∧ s.timaAcc = 8 ∧ s.divAcc = 56 := by
  decide

/-- M2: overflow reloads from TMA and requests in the same step. -/
theorem test_timer_overflow :
    let s := timerStep 4 { State.reset with timaAcc := 16, mem := [(0xFF05, 0xFF), (0xFF06, 0x7C), (0xFF07, 0x05)] }
    s.byte 0xFF05 = 0x7C ∧ s.timaAcc = 4 ∧ s.byte 0xFF0F = 0xE4 := by
  decide

/-- M4a: DIV wraps at 256, TIMA waits at 1024. -/
theorem test_timer_thresholds :
    let s := timerStep 4 { State.reset with timaAcc := 1020, divAcc := 252, mem := [(0xFF04, 0xFF), (0xFF07, 0x04)] }
    s.timaAcc = 1024 ∧ s.byte 0xFF05 = 0x00 ∧ s.byte 0xFF04 = 0x00 ∧ s.divAcc = 0 := by
  decide

/-- G4: the remainder is carried. -/
theorem test_gfx_remainder : gfxStep 24 { State.reset with dot := 76 } = { State.reset with mode := .pixelTransfer, dot := 20 } := by
  decide

/-- G5: VBlank begins at line 144. -/
theorem test_gfx_vblank :
    let s := gfxStep 8 { State.reset with mode := .hBlank, dot := 200, mem := [(0xFF44, 143)], fb := [(7, ⟨0, 0, 0⟩)] }
    s.byte 0xFF44 = 144 ∧ s.mode = .vBlank ∧ s.dot = 4 ∧ s.byte 0xFF0F = 0xE1 ∧ s.frames = [[(7, ⟨0, 0, 0⟩)]] ∧ s.fb = [] := by
  decide

/-- G7: line 154 is line 0. -/
theorem test_gfx_wrap :
    gfxStep 8 { State.reset with mode := .vBlank, dot := 452, mem := [(0xFF44, 153)] } = { State.reset with dot := 4 } := by
  decide

/-- The setting of L1: tile 1 in the first column, unsigned indices, palette 0xE4. -/
def l1 : State := { State.reset with mem := [(0x8010, 0x3C), (0x8011, 0x7E), (0x9800, 0x01), (0xFF40, 0x91), (0xFF47, 0xE4)] }

/-- L1: the shades of the first eight columns. -/
theorem test_render_shades : (List.range 8).map (bgShade l1 0) = [0, 2, 3, 3, 3, 3, 2, 0] := by decide

/-- L3: with SCX = 3 the first three columns are skipped, and column 3 is at x = 0. -/
theorem test_render_scroll :
    let s := { l1 with mem := [(0x8010, 0x3C), (0x8011, 0x7E), (0x9800, 0x01), (0xFF40, 0x91), (0xFF43, 3), (0xFF47, 0xE4)] }
    drawPixel s 0 2 = s ∧ (drawPixel s 0 3).fb.pixel 0 0 = ⟨0, 0, 0⟩ := by
  decide

/-- L7: index 0x80 is the tile at 0x8800 when indices are signed. -/
theorem test_render_signed :
    bgShade { State.reset with mem := [(0x8800, 0xFF), (0x9011, 0xFF), (0x9800, 0x80), (0x9801, 0x01), (0xFF40, 0x81), (0xFF47, 0xE4)] } 0 0 = 1 ∧
    bgShade { State.reset with mem := [(0x8800, 0xFF), (0x9011, 0xFF), (0x9800, 0x80), (0x9801, 0x01), (0xFF40, 0x81), (0xFF47, 0xE4)] } 1 0 = 2 := by
  decide

/-- I4: the lowest enabled source is taken. -/
theorem test_dispatch :
    let s := interruptDispatch { State.reset with pc := 0x1234, sp := 0xD000, ime := true, mem := [(0xFF0F, 0xFF), (0xFFFF, 0x1E)] }
    s.pc = 0x0048 ∧ s.byte 0xFF0F = 0xFD ∧ s.ime = false ∧ s.sp = 0xCFFE ∧ s.byte 0xCFFE = 0x34 ∧ s.byte 0xCFFF = 0x12 := by
  decide

/-- I7: a wake without a dispatch. -/
theorem test_wake :
    interruptDispatch { State.reset with halted := true, mem := [(0xFF0F, 0xE4), (0xFFFF, 0x04)] } =
      { State.reset with mem := [(0xFF0F, 0xE4), (0xFFFF, 0x04)] } := by
  decide

/-- T5 through the whole machine step: the instruction placed where the next step fetches runs, and the devices see its 12 cycles. -/
theorem test_step :
    step (State.reset.withFetchWord 24 0x123401) =
      .next { State.reset.withFetchWord 24 0x123401 with bc := 0x1234, pc := 3, cyc := 12, divAcc := 12, dot := 12 } :=
  rfl

/-- R303: a latched fault is answered. -/
theorem test_step_faulted : step { State.reset with fault := some (.unimplementedOpcode 0xDD 0xC100) } = .fault (.unimplementedOpcode 0xDD 0xC100) :=
  rfl

/-! ### Witnesses: states and operands that meet the hypotheses of the statements -/

/-- A state no reset gives: memory, framebuffer and registers in use, in HBlank of line 143, the timer on. -/
def w : State :=
  { State.reset with
    af := 0x4530, hl := 0xC123, sp := 0xE000, pc := 0x0200, ime := true, cyc := 100, divAcc := 255, timaAcc := 1024, mode := .hBlank, dot := 203
    mem := [(0x0200, 0x10), (0xC123, 0xA5), (0xFF05, 0xFF), (0xFF07, 0x05), (0xFF0F, 0xFF), (0xFF44, 143), (0xFFFF, 0x1C)], fb := [(7, ⟨0, 0, 0⟩)] }

theorem witness_invariant : Inv State.reset ∧ Inv w ∧ Inv { State.reset with mode := .vBlank, dot := 455, mem := [(0xFF44, 153)] } := by
  refine ⟨⟨?_, ?_, ?_, ?_, ?_, ?_, ?_, ?_, ?_⟩, ⟨?_, ?_, ?_, ?_, ?_, ?_, ?_, ?_, ?_⟩, ⟨?_, ?_, ?_, ?_, ?_, ?_, ?_, ?_, ?_⟩⟩ <;> decide

theorem witness_DecodeOfEncode : WellFormed (.ld_BC_nn 0x1234) = true ∧ WellFormed (.set_b_atHL 7) = true := by decide

theorem witness_StepRunsTheFetchedInstruction :
    w.fault = none ∧ w.halted = false ∧ decode [w.byte w.pc, w.byte (w.pc + 1), w.byte (w.pc + 2)] = .ok (.stop 0, [0]) ∧
      decode [State.reset.byte State.reset.pc, State.reset.byte (State.reset.pc + 1), State.reset.byte (State.reset.pc + 2)] = .ok (.nop, [0, 0]) :=
  ⟨rfl, rfl, rfl, rfl⟩

theorem witness_HaltedStepIdles : { w with halted := true }.fault = none ∧ { w with halted := true }.halted = true := by decide

theorem witness_FaultedMachineIsStuck : { w with fault := some (.unimplementedOpcode 0x10 0x0200) }.fault = some (.unimplementedOpcode 0x10 0x0200) :=
  rfl

theorem witness_OnlyUnimplementedOpcodesFault :
    w.fault = none ∧ w.byte w.pc ∈ unimplementedOpcodes ∧ State.reset.fault = none ∧ State.reset.byte State.reset.pc ∉ unimplementedOpcodes := by
  decide

/-- One state whose step latches a fault, one whose step does not. -/
theorem witness_StepCostIsBounded :
    w.fault = none ∧ step w = .next { w with pc := 0x0201, fault := some (.unimplementedOpcode 0x10 0x0200) } ∧
      step State.reset = .next { State.reset with pc := 1, cyc := 4, divAcc := 4, dot := 4 } :=
  ⟨rfl, rfl, rfl⟩

theorem witness_StepKeepsInvariant :
    Inv w ∧ step w = .next { w with pc := 0x0201, fault := some (.unimplementedOpcode 0x10 0x0200) } :=
  ⟨witness_invariant.2.1, rfl⟩

theorem witness_PairAndHalvesAgree :
    halves .BC = [.B, .C] ∧ Reg16.BC ≠ .AF ∧ halves .PC = [.PCh, .PCl] ∧ Reg16.PC ≠ .AF ∧ halves .AF = [.A, .F] := by
  decide

theorem witness_FlagIsolation : Flag.N ≠ Flag.Z ∧ Flag.C ≠ Flag.H := by decide

theorem witness_WhoWritesPcAndSp :
    writesSP .nop = false ∧ transfersControl .nop = false ∧ transfersControl (.stop 0) = false ∧ writesSP (.jp_nn 0) = false ∧
      transfersControl .push_BC = false := by
  decide

/-- The first and last k of both clauses. -/
theorem witness_EchoAliasesWorkRam :
    0x0000 < 0x1E00 ∧ 0x1DFF < 0x1E00 ∧ 0x1E00 ≤ 0x1E00 ∧ 0x1FFF < 0x2000 ∧ (0xDE00 : Word) ≠ 0xC000 + BitVec.ofNat 16 0x1FFF ∧
      (0xFE00 : Word) ≠ 0xC000 + BitVec.ofNat 16 0x1E00 := by
  decide

theorem witness_InstructionsLeaveRomAndDevicesAlone : (0x0000 : Word).toNat < 0x8000 ∧ (0x7FFF : Word).toNat < 0x8000 := by decide

theorem witness_LoadRegFromReg : (.ld_B_B, 0x40, .B, .B) ∈ ldRegReg ∧ (.ld_A_A, 0x7F, .A, .A) ∈ ldRegReg := by decide

theorem witness_LoadRegFromImmediateOrMemory :
    (Instr.ld_A_n, 0x3E, Reg8.A) ∈ ldRegImm ∧ (Instr.ld_B_n, 0x06, Reg8.B) ∈ ldRegImm ∧ (.ld_L_atHL, 0x6E, .L) ∈ ldRegHL := by
  refine ⟨by simp [ldRegImm], by simp [ldRegImm], by decide⟩

theorem witness_StoreByteForms : (.ld_atHL_B, 0x70, .B) ∈ ldHLReg ∧ (.ld_atHL_L, 0x75, .L) ∈ ldHLReg := by decide

theorem witness_LoadPairForms : (Instr.ld_BC_nn, 0x01, Reg16.BC) ∈ ldPairImm ∧ (Instr.ld_SP_nn, 0x31, Reg16.SP) ∈ ldPairImm := by
  constructor <;> simp [ldPairImm]

theorem witness_StoreWordForms : (.push_BC, 0xC5, .BC) ∈ pushPairs ∧ (.push_AF, 0xF5, .AF) ∈ pushPairs := by decide

theorem witness_PopForms : (.pop_BC, 0xC1, .BC) ∈ popPairs ∧ (.pop_HL, 0xE1, .HL) ∈ popPairs := by decide

theorem witness_AddForms : (.add_A_A, 0x87, .A) ∈ addReg ∧ (.adc_A_B, 0x88, .B) ∈ adcReg := by decide

theorem witness_SubtractForms : (.sub_A, 0x97, .A) ∈ subReg ∧ (.sbc_A_B, 0x98, .B) ∈ sbcReg := by decide

theorem witness_CompareForms : (.cp_B, 0xB8, .B) ∈ cpReg ∧ (.cp_A, 0xBF, .A) ∈ cpReg := by decide

theorem witness_LogicForms : (.and_L, 0xA5, .L) ∈ andReg ∧ (.xor_A, 0xAF, .A) ∈ xorReg ∧ (.or_B, 0xB0, .B) ∈ orReg := by decide

theorem witness_IncrementAndDecrementForms : (.inc_A, 0x3C, .A) ∈ incReg ∧ (.dec_B, 0x05, .B) ∈ decReg := by decide

theorem witness_DecimalAdjust : w.flag .N = false ∧ { w with af := 0x9A70 }.flag .N = true := by decide

/-- The highest digits, and a state that holds them in A. -/
theorem witness_DecimalArithmeticIsRight :
    99 < 100 ∧ 0 < 100 ∧ ({ w with af := 0x9900 }.r8 .A).toNat = 99 / 10 * 16 + 99 % 10 ∧ (State.reset.r8 .A).toNat = 0 / 10 * 16 + 0 % 10 := by
  decide

theorem witness_AddPairToHL : (.add_HL_HL, 0x29, .HL) ∈ addHLPair ∧ (.add_HL_SP, 0x39, .SP) ∈ addHLPair := by decide

theorem witness_PairIncrementAndDecrement : (.inc_BC, 0x03, .BC) ∈ incPair ∧ (.dec_SP, 0x3B, .SP) ∈ decPair := by decide

/-- `w` has Z clear and Carry set: a transfer that is taken and one that is not, of each kind. -/
theorem witness_JumpForms :
    (Instr.jp_NZ_nn, 0xC2, Flag.Z, false) ∈ jpIfForms ∧ w.flag .Z = false ∧ (Instr.jp_Z_nn, 0xCA, Flag.Z, true) ∈ jpIfForms ∧ w.flag .Z ≠ true ∧
      (Instr.jr_C_e, 0x38, Flag.C, true) ∈ jrIfForms ∧ w.flag .C = true ∧ (Instr.jr_NC_e, 0x30, Flag.C, false) ∈ jrIfForms ∧ w.flag .C ≠ false := by
  refine ⟨by simp [jpIfForms], by decide, by simp [jpIfForms], by decide, by simp [jrIfForms], by decide, by simp [jrIfForms], by decide⟩

theorem witness_CallForms :
    (Instr.call_NZ_nn, 0xC4, Flag.Z, false) ∈ callIfForms ∧ w.flag .Z = false ∧ (Instr.call_NC_nn, 0xD4, Flag.C, false) ∈ callIfForms ∧
      w.flag .C ≠ false ∧ (Instr.rst_00H, 0xC7, 0x0000) ∈ rstForms ∧ (Instr.rst_38H, 0xFF, 0x0038) ∈ rstForms := by
  refine ⟨by simp [callIfForms], by decide, by simp [callIfForms], by decide, by decide, by decide⟩

theorem witness_ReturnForms :
    (.ret_NZ, 0xC0, .Z, false) ∈ retIfForms ∧ w.flag .Z = false ∧ (.ret_NC, 0xD0, .C, false) ∈ retIfForms ∧ w.flag .C ≠ false := by
  decide

theorem witness_AccumulatorRotates : (.rlca, 0x07, .rlc) ∈ rotateAForms ∧ (.rra, 0x1F, .rr) ∈ rotateAForms := by decide

theorem witness_ShiftForms : (.rlc_B, 0x00, .rlc, .B) ∈ shiftReg ∧ (.srl_A, 0x3F, .srl, .A) ∈ shiftReg ∧ (.swap_atHL, 0x36, .swap) ∈ shiftHL := by
  decide

theorem witness_BitTestForms : (Instr.bit_b_B, 0x40, Reg8.B) ∈ bitReg ∧ (Instr.bit_b_A, 0x47, Reg8.A) ∈ bitReg := by
  constructor <;> simp [bitReg]

theorem witness_BitResetAndSetForms : (Instr.res_b_A, 0x87, Reg8.A) ∈ resReg ∧ (Instr.set_b_B, 0xC0, Reg8.B) ∈ setReg := by
  constructor
  · simp [resReg]
  · simp [setReg]

theorem witness_IllegalOpcodesFault :
    (.illegal_D3, 0xD3) ∈ illegalForms ∧ (.illegal_FD, 0xFD) ∈ illegalForms ∧ { State.reset with mem := [(0x0000, 0xFD)] }.fault = none ∧
      { State.reset with mem := [(0x0000, 0xFD)] }.halted = false ∧ { State.reset with mem := [(0x0000, 0xFD)] }.byte 0x0000 = 0xFD := by
  decide

theorem witness_StopFaults : w.fault = none ∧ w.halted = false ∧ w.byte w.pc = 0x10 := by decide

/-- In `w` the sources 2, 3 and 4 are pending; in the reset state none is. -/
theorem witness_DispatchWithoutService :
    (∀ i, ¬Pending State.reset i) ∧ Pending { w with ime := false } 2 ∧ { w with ime := false }.ime = false := by
  refine ⟨fun i h => ?_, by unfold Pending; decide, rfl⟩
  have h0 : State.reset.byte 0xFFFF = 0 := by decide
  rw [Pending, h0] at h
  simp at h

theorem witness_DispatchTakesFirstSource : Pending w 2 ∧ (∀ j, j < 2 → ¬Pending w j) ∧ w.ime = true := by
  unfold Pending; decide

/-- Places of the stack in every window but the cartridge's: the bounds of VRAM and cartridge RAM, work RAM, echo, OAM, I/O beside IF and LY, and
high RAM up to the wrap. -/
def stackPlaces : List Word := [0x8002, 0xC000, 0xC002, 0xE000, 0xE002, 0xFE02, 0xFF0F, 0xFF12, 0xFF44, 0xFF47, 0xFFFE, 0x0000]

/-- In `w` with its stack at any of them the sources 2, 3 and 4 are pending, IME is set, and neither byte below SP is lost. -/
theorem witness_RetiUndoesDispatch :
    (∀ sp, Pending { w with sp := sp } 4 ∧ { w with sp := sp }.ime = true) ∧
      ∀ sp ∈ stackPlaces, ∀ a ∈ [sp - 2, sp - 1], 0x8000 ≤ a.toNat ∧ a ≠ 0xFF44 ∧ a ≠ 0xFF0F := by
  constructor
  · intro sp
    have hb : ∀ a, { w with sp := sp }.byte a = w.byte a := fun a => State.byte_congr a rfl
    rw [Pending, hb, hb]
    exact ⟨by decide, rfl⟩
  · simp [stackPlaces]

theorem witness_DividerCounts : (0xFF00 : Word) ≠ 0xFF04 ∧ (0xFF00 : Word) ≠ 0xFF05 ∧ (0xFF00 : Word) ≠ 0xFF0F := by decide

/-- The timer off; on, with one increment that overflows; and on, with none. -/
theorem witness_CounterCounts :
    (State.reset.byte 0xFF07).getLsbD 2 = false ∧ (w.byte 0xFF07).getLsbD 2 = true ∧ 65 = (w.timaAcc + 24 - 1) / threshold (w.byte 0xFF07) ∧
      (∃ k, k < 65 ∧ (timaNext (w.byte 0xFF06))^[k] (w.byte 0xFF05) = 0xFF) ∧
      0 = (({ w with timaAcc := 0 }).timaAcc + 16 - 1) / threshold (w.byte 0xFF07) ∧
      ∀ k, k < 0 → (timaNext (w.byte 0xFF06))^[k] (w.byte 0xFF05) ≠ 0xFF :=
  ⟨by decide, by decide, by decide, ⟨0, by decide, by decide⟩, by decide, fun _ h => absurd h (Nat.not_lt_zero _)⟩

theorem witness_TimerAndGraphicsCommute : Memory.wf w.mem := by decide

/-- Inside a mode, and at the first and last dots past the end of one. -/
theorem witness_ModesOfAVisibleLine :
    State.reset.dot + 79 < State.reset.mode.dur ∧ State.reset.mode = .oamScan ∧ State.reset.dot + 80 = 80 + 0 ∧ State.reset.dot + 251 = 80 + 171 ∧
      171 < 172 ∧ { w with mode := .pixelTransfer, dot := 171 }.dot + 1 = 172 + 0 ∧ 203 < 204 := by
  decide

/-- HBlank of lines 143 and 142, VBlank of lines 153 and 144, with no dot and with 79 dots to carry. -/
theorem witness_EndsOfLines :
    w.mode = .hBlank ∧ (w.byte 0xFF44).toNat ≤ 143 ∧ w.dot + 1 = 204 + 0 ∧ w.dot + 80 = 204 + 79 ∧ (w.byte 0xFF44).toNat = 143 ∧
      ({ w with mem := [(0xFF44, 142)] }.byte 0xFF44).toNat ≠ 143 ∧
      144 ≤ ({ w with mem := [(0xFF44, 144)] }.byte 0xFF44).toNat ∧ ({ w with mem := [(0xFF44, 144)] }.byte 0xFF44).toNat ≠ 153 ∧
      ({ w with mem := [(0xFF44, 153)] }.byte 0xFF44).toNat = 153 ∧ { w with mode := .vBlank, dot := 455 }.dot + 1 = 456 + 0 ∧
      { w with mode := .vBlank, dot := 455 }.mode = .vBlank := by
  decide

theorem witness_FramePositionAdvances : Inv w ∧ framePos w = 143 * 456 + 252 + 203 := ⟨witness_invariant.2.1, by decide⟩

/-- One frame more at the next dot of `w`, none in the first dots of a frame. -/
theorem witness_OneFrameForEvery70224Dots :
    Inv w ∧ 1 = (framePos w + 1 + 4560) / 70224 - (framePos w + 4560) / 70224 ∧
      Inv State.reset ∧ 0 = (framePos State.reset + 24 + 4560) / 70224 - (framePos State.reset + 4560) / 70224 :=
  ⟨witness_invariant.2.1, by decide, witness_invariant.1, by decide⟩

/-- The first and last columns, with the background on. -/
theorem witness_RenderedLineIsTheBackgroundRow :
    0 < 160 ∧ 159 < 160 ∧ (l1.byte 0xFF40).getLsbD 0 = true ∧ 0 = (l1.byte 0xFF44).toNat ∧ 159 + (l1.byte 0xFF43).toNat < 256 := by
  decide

end Sys2Proof.Tests
end

section
/-! PROOFS. The fetch and the step of a running machine (00_scope.md R6, 46_system.md R268): which instruction is fetched, that running it
is `exec` whatever the opcode byte, and the one equation for the step, from which the claims about a running machine follow. -/

namespace Sys2Proof.Machine

/-- With two bytes after the opcode byte the decoder answers `decodeBytes`: its rows read no more of them. -/
theorem decodeBytes_of_decode {b0 b1 b2 : Byte} {i : Instr} {rest : List Byte} (h : decode [b0, b1, b2] = .ok (i, rest)) :
    decodeBytes b0 b1 b2 = i := by
  unfold decode at h
  unfold decodeBytes
  cases hrow : primary b0 <;> simp only [hrow, Except.ok.injEq, Prod.mk.injEq] at h <;> exact h.1

/-- The fetch reads the instruction the bytes at PC decode to. -/
theorem fetch_of_decode {s : State} {i : Instr} {rest : List Byte}
    (h : decode [s.byte s.pc, s.byte (s.pc + 1), s.byte (s.pc + 2)] = .ok (i, rest)) : fetch s = some (s.byte s.pc, i) := by
  rw [fetch_eq, decodeBytes_of_decode h]

/-- An opcode byte outside IMPLEMENTED has a row whose meaning is the fault R267 asks for. -/
theorem exec_decodeBytes_of_not_implemented {b0 : Byte} (h : Config.implemented b0 = false) (b1 b2 : Byte) (s : State) :
    exec (decodeBytes b0 b1 b2) s = .next (s.unimplemented b0 1) := by
  simp only [Config.implemented, Bool.not_eq_false', List.contains_iff_mem, List.mem_cons, List.not_mem_nil, or_false] at h
  rcases h with rfl | rfl | rfl | rfl | rfl | rfl | rfl | rfl | rfl | rfl | rfl | rfl <;> rfl

/-- The look at IMPLEMENTED (R267) changes nothing: the instruction fetched has the same meaning by itself. -/
theorem execFetched_eq_exec {s : State} {b0 : Byte} {i : Instr} (h : fetch s = some (b0, i)) : execFetched b0 i s = exec i s := by
  rw [fetch_eq, Option.some.injEq, Prod.mk.injEq] at h
  obtain ⟨rfl, rfl⟩ := h
  unfold execFetched
  split
  · rfl
  · next himpl => exact (exec_decodeBytes_of_not_implemented (Bool.eq_false_iff.2 himpl) _ _ s).symm

/-- The CPU step of a running machine: the fetched instruction, charged. -/
theorem cpuStep_running {s t : State} {b0 : Byte} {i : Instr} (hrun : s.halted = false) (hfetch : fetch s = some (b0, i))
    (hexec : exec i s = .next t) : cpuStep s = .next (charge i s t) := by
  simp [cpuStep, hrun, hfetch, execFetched_eq_exec hfetch, hexec]

/-- An execution that latches no fault is charged its cost, and the devices and the dispatch run with it. -/
theorem afterCpu_charge_of_unfaulted {i : Instr} {s t : State} (h : t.fault = none) :
    afterCpu (charge i s t).2 (charge i s t).1 =
      interruptDispatch (gfxStep ((cost i).cycles s) (timerStep ((cost i).cycles s) { t with cyc := t.cyc + (cost i).cycles s })) := by
  simp [charge, afterCpu, h]

/-- An execution that latches a fault ends the step as it stands (R301). -/
theorem afterCpu_charge_of_faulted {i : Instr} {s t : State} (h : t.fault ≠ none) :
    afterCpu (charge i s t).2 (charge i s t).1 = t := by
  simp [charge, afterCpu, Option.isSome_iff_ne_none.2 h]

/-- The machine step of an unfaulted state whose CPU step answers. -/
theorem step_of_cpuStep {s : State} {p : State × Nat} (hfault : s.fault = none) (hcpu : cpuStep s = .next p) :
    step s = .next (afterCpu p.2 p.1) := by
  simp [step, machineStep, hfault, hcpu]

/-- The step of a running, unfaulted machine, from what the fetched instruction does (R6, R268, R301). -/
theorem step_running {s t : State} {b0 : Byte} {i : Instr} (hfault : s.fault = none) (hrun : s.halted = false)
    (hfetch : fetch s = some (b0, i)) (hexec : exec i s = .next t) :
    step s = .next (if t.fault = none then
        interruptDispatch (gfxStep ((cost i).cycles s) (timerStep ((cost i).cycles s) { t with cyc := t.cyc + (cost i).cycles s }))
      else t) := by
  rw [step_of_cpuStep hfault (cpuStep_running hrun hfetch hexec)]
  split
  · next hok => rw [afterCpu_charge_of_unfaulted hok]
  · next hbad => rw [afterCpu_charge_of_faulted hbad]

/-- Settles O5: the bytes at PC decode to the fetched instruction, every instruction answers a next state, and `step_running` says what the
step makes of it. -/
theorem stepRunsTheFetchedInstruction : Obligations.StepRunsTheFetchedInstruction := by
  intro s i rest hfault hrun hdecode
  obtain ⟨t, hexec⟩ := exec_isNext i s
  exact ⟨t, hexec, step_running hfault hrun (fetch_of_decode hdecode) hexec⟩

end Sys2Proof.Machine
end

section
/-! PROOFS. The invariants of the state (10_state.md, Safety.lean): what the CPU, the timer, the graphics unit and the dispatch keep of them, and
with that the machine step. A device's loop runs with its counter out of range, so the other invariants stand in `LoopInv`, which every turn of
every loop keeps. -/

namespace Sys2Proof.Machine

/-! ### The interrupt-flag register -/

/-- A request raised leaves bits 7..5 of IF set (R41). -/
theorem if_high_or {v : Byte} (h : v &&& 0xE0 = 0xE0) (b : Byte) : (v ||| b) &&& 0xE0 = 0xE0 := by
  apply BitVec.eq_of_getLsbD_eq
  intro i hi
  have hbit := congrArg (·.getLsbD i) h
  simp only [BitVec.getLsbD_and, BitVec.getLsbD_or] at hbit ⊢
  cases hv : v.getLsbD i <;> simp_all

/-- A request of one of the five sources cleared leaves bits 7..5 of IF set (R41, R315). -/
theorem if_high_and_not {v : Byte} (h : v &&& 0xE0 = 0xE0) {i : Nat} (hi : i < 5) :
    v &&& ~~~(BitVec.ofNat 8 (2 ^ i)) &&& 0xE0 = 0xE0 := by
  have hmask : ∀ j : Fin 5, ~~~(BitVec.ofNat 8 (2 ^ j.val)) &&& 0xE0 = 0xE0 := by decide
  rw [BitVec.and_assoc, hmask ⟨i, hi⟩, h]

/-! ### `LoopInv` -/

/-- The invariants but for the ranges of the dot counter and the accumulators. -/
structure LoopInv (s : State) : Prop where
  flags_low : s.af &&& 0x000F = 0
  mem_wf : Memory.wf s.mem
  if_high : s.dev ifAddr &&& 0xE0 = 0xE0
  ly_range : (s.dev lyAddr).toNat ≤ 153
  vblank_lines : s.mode = .vBlank ↔ 144 ≤ (s.dev lyAddr).toNat
  fb_wf : Picture.wf s.fb

theorem inv_iff (s : State) : Inv s ↔ LoopInv s ∧ s.dot < s.mode.dur ∧ s.divAcc < 256 ∧ s.timaAcc ≤ 1024 :=
  ⟨fun ⟨flags, mem, ifh, ly, vb, dot, div, tima, fb⟩ => ⟨⟨flags, mem, ifh, ly, vb, fb⟩, dot, div, tima⟩,
    fun ⟨⟨flags, mem, ifh, ly, vb, fb⟩, dot, div, tima⟩ => ⟨flags, mem, ifh, ly, vb, dot, div, tima, fb⟩⟩

/-- What `LoopInv` speaks of is in these fields. -/
theorem LoopInv.congr {s t : State} (h : LoopInv s) (haf : t.af = s.af) (hmem : t.mem = s.mem) (hmode : t.mode = s.mode) (hfb : t.fb = s.fb) :
    LoopInv t := by
  obtain ⟨flags, mem, ifh, ly, vb, fb⟩ := h
  rw [← State.dev_congr _ hmem] at ifh ly vb
  exact ⟨haf ▸ flags, hmem ▸ mem, ifh, ly, hmode ▸ vb, hfb ▸ fb⟩

/-- The lines of the other modes are the visible ones (R331). -/
theorem LoopInv.line_lt {s : State} (h : LoopInv s) (hmode : s.mode ≠ .vBlank) : (s.dev lyAddr).toNat < 144 :=
  Nat.lt_of_not_le fun hle => hmode (h.vblank_lines.2 hle)

/-- Any change of mode but to and from VBlank. -/
theorem LoopInv.setMode {s : State} (h : LoopInv s) {m : GfxMode} (hs : s.mode ≠ .vBlank) (hm : m ≠ .vBlank) : LoopInv { s with mode := m } :=
  ⟨h.flags_low, h.mem_wf, h.if_high, h.ly_range, iff_of_false hm (Nat.not_le.2 (h.line_lt hs)), h.fb_wf⟩

/-- A device's store outside LY, in IF with bits 7..5 set. -/
theorem LoopInv.devWrite {s : State} (h : LoopInv s) {k : Nat} (hk : Memory.IsHome k) (hly : k ≠ lyAddr) {v : Byte}
    (hif : k = ifAddr → v &&& 0xE0 = 0xE0) : LoopInv (s.devWrite k v) := by
  have hline : (s.devWrite k v).dev lyAddr = s.dev lyAddr := by rw [State.dev_devWrite, if_neg hly.symm]
  refine ⟨h.flags_low, State.devWrite_wf v h.mem_wf hk, ?_, hline ▸ h.ly_range, hline ▸ h.vblank_lines, h.fb_wf⟩
  rw [State.dev_devWrite]
  split
  · next heq => exact hif heq.symm
  · exact h.if_high

/-- A request raised in IF (R41). -/
theorem LoopInv.request {s : State} (h : LoopInv s) (b : Byte) : LoopInv (s.devWrite ifAddr (s.dev ifAddr ||| b)) :=
  h.devWrite (by decide) (by decide) fun _ => if_high_or h.if_high b

/-- A move to line `v` in the mode of that line. -/
theorem LoopInv.setLine {s : State} (h : LoopInv s) {v : Byte} {m : GfxMode} (hv : v.toNat ≤ 153) (hm : m = .vBlank ↔ 144 ≤ v.toNat) :
    LoopInv { s.devWrite lyAddr v with mode := m } := by
  have hline : ({ s.devWrite lyAddr v with mode := m } : State).dev lyAddr = v := (State.dev_devWrite s _ _ v).trans (if_pos rfl)
  have hif : ({ s.devWrite lyAddr v with mode := m } : State).dev ifAddr = s.dev ifAddr :=
    (State.dev_devWrite s _ _ v).trans (if_neg (by decide))
  exact ⟨h.flags_low, State.devWrite_wf v h.mem_wf (by decide), by rw [hif]; exact h.if_high, by rw [hline]; exact hv, by rw [hline]; exact hm,
    h.fb_wf⟩

/-! ### The CPU -/

/-- What every instruction keeps (`Keeps`) holds the invariants. -/
theorem Inv.of_keeps {s t : State} (h : Inv s) (k : Keeps s t) : Inv t := by
  obtain ⟨flags, mem, ifh, ly, vb, dot, div, tima, fb⟩ := h
  rw [← k.ly] at ly vb
  exact ⟨k.flags_low flags, k.mem_wf mem, k.if_high ifh, ly, k.mode ▸ vb, k.dot ▸ k.mode ▸ dot, k.divAcc ▸ div, k.timaAcc ▸ tima, k.fb ▸ fb⟩

/-- The invariants do not speak of the cycle counter. -/
theorem Inv.setCyc {s : State} (h : Inv s) (c : Nat) : Inv { s with cyc := c } :=
  ⟨h.flags_low, h.mem_wf, h.if_high, h.ly_range, h.vblank_lines, h.dot_range, h.div_range, h.tima_range, h.fb_wf⟩

theorem cpuStep_halted {s : State} (hhalt : s.halted = true) :
    cpuStep s = .next ({ s with cyc := s.cyc + Config.haltIdleCycles }, Config.haltIdleCycles) := by
  simp [cpuStep, hhalt]

theorem charge_inv {t : State} (h : Inv t) (i : Instr) (s : State) : Inv (charge i s t).1 := by
  unfold charge
  split
  · exact h
  · exact h.setCyc _

/-- The CPU step answers, halted or running, a state with the invariants. -/
theorem cpuStep_inv {s : State} (h : Inv s) : ∃ p, cpuStep s = .next p ∧ Inv p.1 := by
  cases hhalt : s.halted
  case true => exact ⟨_, cpuStep_halted hhalt, h.setCyc _⟩
  case false =>
    obtain ⟨t, hexec, hkeeps⟩ := exec_keeps (decodeBytes (s.byte s.pc) (s.byte (s.pc + 1)) (s.byte (s.pc + 2))) s
    exact ⟨_, cpuStep_running hhalt (fetch_eq s) hexec, charge_inv (h.of_keeps hkeeps) _ s⟩

/-! ### The timer -/

theorem divTick_loopInv {s : State} (h : LoopInv s) : LoopInv (divTick s) := by
  have hstore : LoopInv (s.devWrite divAddr (s.dev divAddr + 1)) :=
    h.devWrite (by decide) (by decide) fun hif => absurd hif (by decide)
  exact hstore.congr rfl rfl rfl rfl

theorem divLoop_loopInv (n : Nat) {s : State} (h : LoopInv s) : LoopInv (divLoop n s) := by
  induction n generalizing s with
  | zero => exact h
  | succ n ih =>
    unfold divLoop
    split
    · exact ih (divTick_loopInv h)
    · exact h

theorem divStep_inv (c : Nat) {s : State} (h : Inv s) : Inv (divStep c s) := by
  obtain ⟨hloop, hdot, -, htima⟩ := (inv_iff s).1 h
  have hdiv : (divStep c s).divAcc < 256 := divLoop_lt _ _ (by dsimp only; omega)
  have hloop' : LoopInv (divStep c s) := divLoop_loopInv _ (hloop.congr rfl rfl rfl rfl)
  rw [divStep_eq] at hloop' ⊢
  exact (inv_iff _).2 ⟨hloop', hdot, hdiv, htima⟩

theorem timaTick_loopInv (th : Nat) {s : State} (h : LoopInv s) : LoopInv (timaTick th s) := by
  have h' : LoopInv { s with timaAcc := s.timaAcc - th } := h.congr rfl rfl rfl rfl
  have hstore : ∀ v : Byte, LoopInv (State.devWrite { s with timaAcc := s.timaAcc - th } timaAddr v) := fun v =>
    h'.devWrite (by decide) (by decide) fun hif => absurd hif (by decide)
  unfold timaTick
  dsimp only
  split
  · exact (hstore _).request _
  · exact hstore _

theorem timaLoop_loopInv (th n : Nat) {s : State} (h : LoopInv s) : LoopInv (timaLoop th n s) := by
  induction n generalizing s with
  | zero => exact h
  | succ n ih =>
    unfold timaLoop
    split
    · exact ih (timaTick_loopInv th h)
    · exact h

/-- The counter's half of the timer step: while enabled its accumulator ends at the threshold or below, while disabled nothing changes. -/
theorem timaStep_inv (c : Nat) {s : State} (h : Inv s) : Inv (timaStep c s) := by
  obtain ⟨hloop, hdot, hdiv, -⟩ := (inv_iff s).1 h
  unfold timaStep
  split
  · obtain ⟨hpos, hmax⟩ := timaThreshold_pos (s.dev tacAddr)
    have htima := timaLoop_le (timaThreshold (s.dev tacAddr)) (s.timaAcc + c) { s with timaAcc := s.timaAcc + c } hpos (by dsimp only; omega)
    have hloop' := timaLoop_loopInv (timaThreshold (s.dev tacAddr)) (s.timaAcc + c) (s := { s with timaAcc := s.timaAcc + c })
      (hloop.congr rfl rfl rfl rfl)
    rw [timaLoop_eq] at hloop' ⊢
    exact (inv_iff _).2 ⟨hloop', hdot, hdiv, htima.trans hmax⟩
  · exact h

theorem timerStep_inv (c : Nat) {s : State} (h : Inv s) : Inv (timerStep c s) := timaStep_inv c (divStep_inv c h)

/-! ### The graphics unit -/

/-- Rendering a line changes the framebuffer alone. -/
theorem renderLine_eq (s : State) : renderLine s = { s with fb := (renderLine s).fb } := by
  unfold renderLine
  split
  · exact foldl_columns_eq _ s
  · rfl

theorem drawPixel_loopInv {s : State} (h : LoopInv s ∧ s.mode ≠ .vBlank) (tc px : Nat) :
    LoopInv (drawPixel s tc px) ∧ (drawPixel s tc px).mode ≠ .vBlank := by
  obtain ⟨hloop, hmode⟩ := h
  unfold drawPixel
  dsimp only
  split
  · next hx =>
    exact ⟨⟨hloop.flags_low, hloop.mem_wf, hloop.if_high, hloop.ly_range, hloop.vblank_lines,
      Picture.setPixel_wf _ _ _ hloop.fb_wf (hloop.line_lt hmode) (by omega)⟩, hmode⟩
  · exact ⟨hloop, hmode⟩

/-- Every pixel drawn is one of the grid, since lines are drawn outside VBlank alone. -/
theorem renderLine_loopInv {s : State} (h : LoopInv s) (hmode : s.mode ≠ .vBlank) : LoopInv (renderLine s) := by
  unfold renderLine
  split
  · exact (List.foldlRecOn (motive := fun t => LoopInv t ∧ t.mode ≠ .vBlank) _ _ ⟨h, hmode⟩ fun t ht tc _ =>
      List.foldlRecOn (motive := fun u => LoopInv u ∧ u.mode ≠ .vBlank) _ _ ht fun u hu px _ => drawPixel_loopInv hu tc px).1
  · exact h

theorem hBlankEnd_loopInv {s : State} (h : LoopInv s) (hmode : s.mode = .hBlank) : LoopInv (hBlankEnd s) := by
  have hlt := h.line_lt (by simp [hmode])
  have hly : (s.dev lyAddr + 1).toNat = (s.dev lyAddr).toNat + 1 := by bv_omega
  unfold hBlankEnd deliverFrame
  dsimp only
  split
  · next h144 =>
    have hline : LoopInv { s.devWrite lyAddr (s.dev lyAddr + 1) with mode := .vBlank } :=
      h.setLine (by omega) (iff_of_true rfl (by rw [h144]; decide))
    have hblank : Picture.wf [] := by decide
    obtain ⟨flags, mem, ifh, ly, vb, -⟩ := hline.request 0x01
    exact ⟨flags, mem, ifh, ly, vb, hblank⟩
  · next h144 =>
    have hne : (s.dev lyAddr + 1).toNat ≠ 144 := fun heq => h144 (BitVec.eq_of_toNat_eq heq)
    exact h.setLine (by omega) (iff_of_false (by decide) (by omega))

theorem vBlankLineEnd_loopInv {s : State} (h : LoopInv s) (hmode : s.mode = .vBlank) : LoopInv (vBlankLineEnd s) := by
  have hge := h.vblank_lines.1 hmode
  have hle := h.ly_range
  have hly : (s.dev lyAddr + 1).toNat = (s.dev lyAddr).toNat + 1 := by bv_omega
  unfold vBlankLineEnd
  dsimp only
  split
  · exact h.setLine (by decide) (by decide)
  · next h154 =>
    have hne : (s.dev lyAddr + 1).toNat ≠ 154 := fun heq => h154 (BitVec.eq_of_toNat_eq heq)
    exact (h.setLine (v := s.dev lyAddr + 1) (m := .vBlank) (by omega) (iff_of_true rfl (by omega))).congr rfl rfl hmode rfl

/-- One transition, in each of the four modes (R331). -/
theorem gfxTransition_loopInv {s : State} (h : LoopInv s) : LoopInv (gfxTransition s) := by
  have h' : LoopInv { s with dot := s.dot - s.mode.dur } := h.congr rfl rfl rfl rfl
  unfold gfxTransition
  dsimp only
  split
  · next hmode => exact h'.setMode (by simp [hmode]) (by decide)
  · next hmode =>
    have hrender := renderLine_loopInv h' (by simp [hmode])
    have hkept : (renderLine { s with dot := s.dot - s.mode.dur }).mode = .pixelTransfer := by rw [renderLine_eq]; exact hmode
    exact hrender.setMode (by simp [hkept]) (by decide)
  · next hmode => exact hBlankEnd_loopInv h' hmode
  · next hmode => exact vBlankLineEnd_loopInv h' hmode

/-- A transition takes the mode's length off the dot counter; it changes no register and no accumulator. -/
theorem gfxTransition_eq (s : State) :
    gfxTransition s =
      { s with
        dot := s.dot - s.mode.dur, mode := (gfxTransition s).mode, mem := (gfxTransition s).mem, fb := (gfxTransition s).fb,
        frames := (gfxTransition s).frames } := by
  unfold gfxTransition
  dsimp only
  split
  · rfl
  · rw [renderLine_eq]
  · rw [hBlankEnd_eq]
  · rw [vBlankLineEnd_eq]

theorem gfxLoop_loopInv (n : Nat) {s : State} (h : LoopInv s) : LoopInv (gfxLoop n s) := by
  induction n generalizing s with
  | zero => exact h
  | succ n ih =>
    unfold gfxLoop
    split
    · exact ih (gfxTransition_loopInv h)
    · exact h

theorem gfxLoop_eq (n : Nat) (s : State) :
    gfxLoop n s =
      { s with
        dot := (gfxLoop n s).dot, mode := (gfxLoop n s).mode, mem := (gfxLoop n s).mem, fb := (gfxLoop n s).fb,
        frames := (gfxLoop n s).frames } := by
  induction n generalizing s with
  | zero => rfl
  | succ n ih =>
    unfold gfxLoop
    split
    · rw [ih, gfxTransition_eq]
    · rfl

/-- With the dot counter as fuel the loop ends inside a mode: every turn takes off more than one dot. -/
theorem gfxLoop_dot_lt (n : Nat) {s : State} (h : s.dot ≤ n) : (gfxLoop n s).dot < (gfxLoop n s).mode.dur := by
  induction n generalizing s with
  | zero =>
    have := s.mode.dur_pos
    simp only [gfxLoop]
    omega
  | succ n ih =>
    unfold gfxLoop
    split
    · have := s.mode.dur_pos
      exact ih (by rw [gfxTransition_eq]; dsimp only; omega)
    · omega

theorem gfxStep_inv (c : Nat) {s : State} (h : Inv s) : Inv (gfxStep c s) := by
  obtain ⟨hloop, -, hdiv, htima⟩ := (inv_iff s).1 h
  have hdot : (gfxStep c s).dot < (gfxStep c s).mode.dur := gfxLoop_dot_lt _ (Nat.le_refl _)
  have hloop' : LoopInv (gfxStep c s) := gfxLoop_loopInv _ (hloop.congr rfl rfl rfl rfl)
  have heq := gfxLoop_eq (s.dot + c) { s with dot := s.dot + c }
  refine (inv_iff _).2 ⟨hloop', hdot, ?_, ?_⟩
  · rw [gfxStep, heq]; exact hdiv
  · rw [gfxStep, heq]; exact htima

/-! ### The dispatch and the step -/

theorem leastSource_lt (pending : Byte) : leastSource pending < 5 := by
  unfold leastSource
  split_ifs <;> decide

theorem takeInterrupt_inv {s : State} (h : Inv s) {i : Nat} (hi : i < 5) : Inv (s.takeInterrupt i) := by
  obtain ⟨hloop, hranges⟩ := (inv_iff _).1 (h.of_keeps (keeps_push16 s s.pc))
  refine (inv_iff _).2 ⟨?_, hranges⟩
  exact (hloop.devWrite (k := ifAddr) (by decide) (by decide) fun _ => if_high_and_not hloop.if_high hi).congr rfl rfl rfl rfl

theorem interruptDispatch_inv {s : State} (h : Inv s) : Inv (interruptDispatch s) := by
  have hwake : Inv { s with halted := false } := h.of_keeps ((Keeps.refl s).congr rfl rfl rfl rfl rfl rfl rfl rfl rfl)
  unfold interruptDispatch
  split
  · exact h
  · split
    · exact takeInterrupt_inv hwake (leastSource_lt _)
    · exact hwake

theorem afterCpu_inv (c : Nat) {t : State} (h : Inv t) : Inv (afterCpu c t) := by
  unfold afterCpu
  split
  · exact h
  · exact interruptDispatch_inv (gfxStep_inv c (timerStep_inv c h))

/-- Settles O10: the CPU step keeps the invariants (`cpuStep_inv`), and so do the devices and the dispatch (`afterCpu_inv`). -/
theorem stepKeepsInvariant : Obligations.StepKeepsInvariant := by
  intro s t h hstep
  cases hfault : s.fault with
  | some f => simp [step, machineStep, hfault] at hstep
  | none =>
    obtain ⟨p, hcpu, hp⟩ := cpuStep_inv h
    obtain rfl : afterCpu p.2 p.1 = t := by simpa [step_of_cpuStep hfault hcpu] using hstep
    exact afterCpu_inv p.2 hp

end Sys2Proof.Machine
end

section
/-! PROOFS. The state at reset (10_state.md R53), and the two views of the registers and the flags (R20 to R24). -/

namespace Sys2Proof.Machine

open Sys2Proof.Claims

/-! ### Reset -/

theorem inv_reset : Inv State.reset := by
  refine (inv_iff _).2 ⟨⟨?flags, ?mem, ?ifh, ?ly, ?vb, ?fb⟩, ?dot, ?div, ?tima⟩
  all_goals decide

/-- Nothing is listed at reset, and IF is the one cell whose unlisted byte is not 0x00. -/
theorem byte_reset (a : Word) : State.reset.byte a = if a = 0xFF0F then 0xE0 else 0x00 := by
  have hcell : Memory.home a = ifAddr ↔ a = 0xFF0F := by
    refine (Memory.home_eq_iff 0xFF0F a).trans ⟨fun h => h.resolve_right ?_, .inl⟩
    have ha := a.isLt
    rintro (⟨-, hlt, -⟩ | ⟨hle, hlt, heq⟩)
    · exact absurd hlt (by decide)
    · rw [show (0xFF0F : Word).toNat = 0xFF0F from rfl] at heq
      omega
  exact if_congr hcell rfl rfl

/-- Settles O11: each field's value by evaluation, memory's bytes by `byte_reset`, the invariants by `inv_reset`. -/
theorem resetState : Obligations.ResetState :=
  ⟨fun p => by cases p <;> rfl, byte_reset, rfl, rfl, rfl, rfl, rfl, rfl, rfl, rfl, fun _ _ => rfl, rfl, rfl, inv_reset⟩

/-! ### A pair and its halves -/

/-- The first of a pair's halves is its high byte, the second its low byte (R21). -/
theorem halves_eq {p : Reg16} {x y : Reg8} (h : halves p = [x, y]) :
    x.pair = p ∧ x.isHigh = true ∧ y.pair = p ∧ y.isHigh = false := by
  cases p <;> (obtain ⟨rfl, rfl⟩ : _ ∧ _ := by simpa [halves] using h) <;> exact ⟨rfl, rfl, rfl, rfl⟩

theorem State.r8_high_half (s : State) {x : Reg8} (h : x.isHigh = true) : s.r8 x = hiByte (s.r16 x.pair) := if_pos h

theorem State.r8_low_half (s : State) {y : Reg8} (h : y.isHigh = false) : s.r8 y = loByte (s.r16 y.pair) := if_neg (by simp [h])

/-- The word of a pair is its two halves side by side. -/
theorem State.r16_eq_halves (s : State) {p : Reg16} {x y : Reg8} (h : halves p = [x, y]) : s.r16 p = mkWord (s.r8 x) (s.r8 y) := by
  obtain ⟨rfl, hx, hy, hlow⟩ := halves_eq h
  rw [s.r8_high_half hx, s.r8_low_half hlow, hy, mkWord_hiByte_loByte]

/-- A pair write is read back, but for the low bits of F. -/
theorem State.r16_setR16_self (s : State) {p : Reg16} (hp : p ≠ .AF) (v : Word) : (s.setR16 p v).r16 p = v := by
  cases p
  case AF => exact absurd rfl hp
  all_goals rfl

/-- The low byte of a word written to AF loses its bits 3..0 (R23). -/
theorem loByte_and_mask (v : Word) : loByte (v &&& 0xFFF0) = loByte v &&& 0xF0 := by
  conv_lhs => rw [← mkWord_hiByte_loByte v, mkWord_and_mask, loByte_mkWord]

theorem hiByte_and_mask (v : Word) : hiByte (v &&& 0xFFF0) = hiByte v := by
  conv_lhs => rw [← mkWord_hiByte_loByte v, mkWord_and_mask, hiByte_mkWord]

/-- A word write is seen in both halves. -/
theorem halves_after_setR16 (s : State) {p : Reg16} {x y : Reg8} (h : halves p = [x, y]) (hp : p ≠ .AF) (v : Word) :
    (s.setR16 p v).r8 x = hi8 v ∧ (s.setR16 p v).r8 y = lo8 v := by
  obtain ⟨rfl, hx, hy, hlow⟩ := halves_eq h
  rw [State.r8_high_half _ hx, State.r8_low_half _ hlow, hy, s.r16_setR16_self hp]
  exact ⟨rfl, rfl⟩

/-- A write to the high half. -/
theorem setR8_high_half (s : State) {p : Reg16} {x y : Reg8} (h : halves p = [x, y]) (b : Byte) :
    (s.setR8 x b).r8 x = b ∧ (s.setR8 x b).r8 y = s.r8 y ∧ (s.setR8 x b).r16 p = b ++ s.r8 y := by
  obtain ⟨-, hx, -, hlow⟩ := halves_eq h
  have hF : x ≠ .F := fun hxF => by simp [hxF, Reg8.isHigh] at hx
  have hne : y ≠ x := fun hyx => by simp [hyx, hx] at hlow
  have hself : (s.setR8 x b).r8 x = b := (s.r8_setR8_self x b).trans (if_neg hF)
  have hother := s.r8_setR8_ne b hne
  exact ⟨hself, hother, by rw [State.r16_eq_halves _ h, hself, hother]; rfl⟩

/-- A write to the low half; that of AF drops bits. -/
theorem setR8_low_half (s : State) {p : Reg16} {x y : Reg8} (h : halves p = [x, y]) (b : Byte) :
    (p ≠ .AF → (s.setR8 y b).r8 y = b ∧ (s.setR8 y b).r16 p = s.r8 x ++ b) ∧ (s.setR8 y b).r8 x = s.r8 x := by
  obtain ⟨-, hx, hpair, hlow⟩ := halves_eq h
  have hne : x ≠ y := fun hxy => by simp [← hxy, hx] at hlow
  have hother := s.r8_setR8_ne b hne
  refine ⟨fun hp => ?_, hother⟩
  have hF : y ≠ .F := fun hyF => hp (by rw [← hpair, hyF]; rfl)
  have hself : (s.setR8 y b).r8 y = b := (s.r8_setR8_self y b).trans (if_neg hF)
  exact ⟨hself, by rw [State.r16_eq_halves _ h, hself, hother]; rfl⟩

/-- Settles O12: word writes by `halves_after_setR16`, byte writes by `setR8_high_half` and `setR8_low_half`, AF by its mask. -/
theorem pairAndHalvesAgree : Obligations.PairAndHalvesAgree := by
  refine ⟨fun s p x y h hp v => ⟨s.r16_setR16_self hp v, halves_after_setR16 s h hp v⟩, fun s p x y h b => ?_, fun s v b => ?_⟩
  · obtain ⟨hself, hother, hword⟩ := setR8_high_half s h b
    exact ⟨hself, hother, hword, setR8_low_half s h b⟩
  · exact ⟨rfl, hiByte_and_mask v, loByte_and_mask v, s.r8_setR8_self .F b⟩

/-! ### Flags -/

/-- The mask of a write to F keeps every flag's bit (R23). -/
theorem State.flag_setR8_F (s : State) (v : Byte) (f : Flag) : (s.setR8 .F v).flag f = v.getLsbD f.bit := by
  have hmask : (0xF0 : Byte).getLsbD f.bit = true := by cases f <;> rfl
  rw [State.flag, State.r8_setR8_self, if_pos rfl, BitVec.getLsbD_and, hmask, Bool.and_true]

/-- The byte a flag is set and cleared with has that flag's bit alone among the flags' bits. -/
theorem flagMask_bit (f g : Flag) : (BitVec.ofNat 8 (2 ^ f.bit)).getLsbD g.bit = decide (g = f) := by
  cases f <;> cases g <;> rfl

theorem Flag.bit_lt (f : Flag) : f.bit < 8 := by cases f <;> decide

theorem State.flag_setFlag (s : State) (f g : Flag) : (s.setFlag f).flag g = (s.flag g || decide (g = f)) := by
  rw [State.setFlag, State.flag_setR8_F, BitVec.getLsbD_or, flagMask_bit]
  rfl

theorem State.flag_clearFlag (s : State) (f g : Flag) : (s.clearFlag f).flag g = (s.flag g && !decide (g = f)) := by
  rw [State.clearFlag, State.flag_setR8_F, BitVec.getLsbD_and, BitVec.getLsbD_not, flagMask_bit, decide_eq_true g.bit_lt, Bool.true_and]
  rfl

/-- Settles O13: what each flag is after a set or a clear (`State.flag_setFlag`, `State.flag_clearFlag`); A is another half than F. -/
theorem flagIsolation : Obligations.FlagIsolation := by
  refine ⟨fun s => ⟨rfl, rfl, rfl, rfl⟩, fun s f => ⟨?_, ?_, fun g hg => ⟨?_, ?_⟩, ?_, ?_⟩⟩
  · simp [State.flag_setFlag]
  · simp [State.flag_clearFlag]
  · simp [State.flag_setFlag, hg]
  · simp [State.flag_clearFlag, hg]
  · exact s.r8_setR8_ne _ (by decide)
  · exact s.r8_setR8_ne _ (by decide)

end Sys2Proof.Machine
end

section
/-! PROOFS. Which instructions write PC, SP and the halted flag (10_state.md R25, R26, R28). Each shared meaning says once what becomes of the three;
the instructions follow from their meanings. -/

namespace Sys2Proof.Machine

open Sys2Proof.Claims

/-! ### PC, SP and the halted flag after each shared meaning -/

/-- No half of SP or PC, the registers that instructions name as data. -/
def Reg8.isData : Reg8 → Bool
  | .A | .F | .B | .C | .D | .E | .H | .L => true
  | .SPh | .SPl | .PCh | .PCl => false

/-- A byte in memory or in the instruction, or a data register. -/
def Operand8.IsData (o : Operand8) : Prop := ∀ r, o = .reg r → r.isData = true

theorem Operand8.isData_reg {r : Reg8} : (Operand8.reg r).IsData ↔ r.isData = true := by simp [Operand8.IsData]

theorem Operand8.isData_mem (a : Word) : (Operand8.mem a).IsData := nofun

theorem setR8_control (s : State) {x : Reg8} (hx : x.isData = true) (v : Byte) : (s.setR8 x v).pc = s.pc ∧ (s.setR8 x v).sp = s.sp := by
  cases x
  case SPh | SPl | PCh | PCl => cases hx
  all_goals exact ⟨rfl, rfl⟩

theorem setR16_pc (s : State) {p : Reg16} (hp : p ≠ .PC) (v : Word) : (s.setR16 p v).pc = s.pc := by
  cases p
  case PC => exact absurd rfl hp
  all_goals rfl

theorem setR16_sp (s : State) {p : Reg16} (hp : p ≠ .SP) (v : Word) : (s.setR16 p v).sp = s.sp := by
  cases p
  case SP => exact absurd rfl hp
  all_goals rfl

theorem setOperand_control (s : State) {o : Operand8} (ho : o.IsData) (v : Byte) :
    (s.setOperand o v).pc = s.pc ∧ (s.setOperand o v).sp = s.sp ∧ (s.setOperand o v).halted = s.halted := by
  cases o with
  | reg r =>
    obtain ⟨hpc, hsp⟩ := setR8_control s (ho r rfl) v
    exact ⟨hpc, hsp, s.setR8_halted r v⟩
  | mem a => exact ⟨s.write_pc a v, s.write_sp a v, s.write_halted a v⟩
  | imm n => exact ⟨rfl, rfl, rfl⟩

@[simp] theorem State.push16_halted (s : State) (v : Word) : (s.push16 v).halted = s.halted := by rw [State.push16_eq]

theorem unimplemented_control (s : State) (op : Byte) (n : Nat) :
    (s.unimplemented op n).pc = s.pc + BitVec.ofNat 16 n ∧ (s.unimplemented op n).sp = s.sp ∧ (s.unimplemented op n).halted = s.halted :=
  ⟨rfl, rfl, rfl⟩

theorem loadReg_control {d : Reg8} (hd : d.isData = true) (n : Nat) (o : Operand8) (s : State) :
    (loadReg d n o s).pc = s.pc + BitVec.ofNat 16 n ∧ (loadReg d n o s).sp = s.sp ∧ (loadReg d n o s).halted = s.halted := by
  simp [loadReg, setR8_control _ hd]

theorem storeByte_control (n : Nat) (a : Word) (v : Byte) (s : State) :
    (storeByte n a v s).pc = s.pc + BitVec.ofNat 16 n ∧ (storeByte n a v s).sp = s.sp ∧ (storeByte n a v s).halted = s.halted := by
  simp [storeByte]

theorem stepHL_control (d : Word) (t : State) : (stepHL d t).pc = t.pc ∧ (stepHL d t).sp = t.sp ∧ (stepHL d t).halted = t.halted :=
  ⟨rfl, rfl, rfl⟩

theorem loadPair_control {p : Reg16} (hp : p ≠ .PC) (nn : Word) (s : State) :
    (loadPair p nn s).pc = s.pc + 3#16 ∧ (p ≠ .SP → (loadPair p nn s).sp = s.sp) ∧ (loadPair p nn s).halted = s.halted :=
  ⟨setR16_pc _ hp nn, fun hsp => setR16_sp _ hsp nn, State.setR16_halted _ _ _⟩

theorem storeSP_control (nn : Word) (s : State) :
    (storeSP nn s).pc = s.pc + 3#16 ∧ (storeSP nn s).sp = s.sp ∧ (storeSP nn s).halted = s.halted := by
  simp [storeSP, State.writeWord]

theorem copyHLtoSP_control (s : State) : (copyHLtoSP s).pc = s.pc + 1#16 ∧ (copyHLtoSP s).halted = s.halted := ⟨rfl, rfl⟩

theorem pushPair_control (p : Reg16) (s : State) : (pushPair p s).pc = s.pc + 1#16 ∧ (pushPair p s).halted = s.halted := by
  simp [pushPair]

theorem popPair_control {p : Reg16} (hp : p ≠ .PC) (s : State) : (popPair p s).pc = s.pc + 1#16 ∧ (popPair p s).halted = s.halted := by
  rw [popPair_eq]
  exact ⟨setR16_pc _ hp _, State.setR16_halted _ _ _⟩

theorem aluA_control (op : AluOp) (n : Nat) (o : Operand8) (s : State) :
    (aluA op n o s).pc = s.pc + BitVec.ofNat 16 n ∧ (aluA op n o s).sp = s.sp ∧ (aluA op n o s).halted = s.halted := by
  simp only [aluA, State.getThen_eq]
  split <;> simp

theorem modify_control (n : Nat) {o : Operand8} (ho : o.IsData) (f : Byte → Bool → Flagged) (s : State) :
    (modify n o f s).pc = s.pc + BitVec.ofNat 16 n ∧ (modify n o f s).sp = s.sp ∧ (modify n o f s).halted = s.halted := by
  simp [modify, setOperand_control _ ho]

theorem decimalAdjust_control (s : State) :
    (decimalAdjust s).pc = s.pc + 1#16 ∧ (decimalAdjust s).sp = s.sp ∧ (decimalAdjust s).halted = s.halted := ⟨rfl, rfl, rfl⟩

theorem complementA_control (s : State) :
    (complementA s).pc = s.pc + 1#16 ∧ (complementA s).sp = s.sp ∧ (complementA s).halted = s.halted := ⟨rfl, rfl, rfl⟩

theorem setCarry_control (s : State) : (setCarry s).pc = s.pc + 1#16 ∧ (setCarry s).sp = s.sp ∧ (setCarry s).halted = s.halted :=
  ⟨rfl, rfl, rfl⟩

theorem complementCarry_control (s : State) :
    (complementCarry s).pc = s.pc + 1#16 ∧ (complementCarry s).sp = s.sp ∧ (complementCarry s).halted = s.halted := ⟨rfl, rfl, rfl⟩

theorem addHL_control (p : Reg16) (s : State) :
    (addHL p s).pc = s.pc + 1#16 ∧ (addHL p s).sp = s.sp ∧ (addHL p s).halted = s.halted := ⟨rfl, rfl, rfl⟩

theorem addPair_control {p : Reg16} (hp : p ≠ .PC) (d : Word) (s : State) :
    (addPair p d s).pc = s.pc + 1#16 ∧ (p ≠ .SP → (addPair p d s).sp = s.sp) ∧ (addPair p d s).halted = s.halted :=
  ⟨setR16_pc _ hp _, fun hsp => setR16_sp _ hsp _, State.setR16_halted _ _ _⟩

theorem spOffsetTo_control {p : Reg16} (hp : p ≠ .PC) (e : Byte) (s : State) :
    (spOffsetTo p e s).pc = s.pc + 2#16 ∧ (p ≠ .SP → (spOffsetTo p e s).sp = s.sp) ∧ (spOffsetTo p e s).halted = s.halted :=
  ⟨setR16_pc _ hp _, fun hsp => setR16_sp _ hsp _, State.setR16_halted _ _ _⟩

theorem rotateA_control (f : Shift) (s : State) :
    (rotateA f s).pc = s.pc + 1#16 ∧ (rotateA f s).sp = s.sp ∧ (rotateA f s).halted = s.halted := ⟨rfl, rfl, rfl⟩

theorem shiftOperand_control (f : Shift) {o : Operand8} (ho : o.IsData) (s : State) :
    (shiftOperand f o s).pc = s.pc + 2#16 ∧ (shiftOperand f o s).sp = s.sp ∧ (shiftOperand f o s).halted = s.halted :=
  modify_control 2 ho _ s

theorem testBit_control (b : BitVec 3) (o : Operand8) (s : State) :
    (testBit b o s).pc = s.pc + 2#16 ∧ (testBit b o s).sp = s.sp ∧ (testBit b o s).halted = s.halted := by
  simp [testBit]

theorem resetBit_control (b : BitVec 3) {o : Operand8} (ho : o.IsData) (s : State) :
    (resetBit b o s).pc = s.pc + 2#16 ∧ (resetBit b o s).sp = s.sp ∧ (resetBit b o s).halted = s.halted := by
  simp [resetBit, setOperand_control _ ho]

theorem setBit_control (b : BitVec 3) {o : Operand8} (ho : o.IsData) (s : State) :
    (setBit b o s).pc = s.pc + 2#16 ∧ (setBit b o s).sp = s.sp ∧ (setBit b o s).halted = s.halted := by
  simp [setBit, setOperand_control _ ho]

/-- The operand codes name data registers and the byte at HL alone (R102). -/
theorem operandOf_isData (s : State) (z : BitVec 3) : (operandOf s z).IsData := by
  unfold operandOf
  split
  case h_7 => exact Operand8.isData_mem _
  all_goals exact Operand8.isData_reg.2 rfl

theorem extendedOp_control (op2 : Byte) (s : State) :
    (extendedOp op2 s).pc = s.pc + 2#16 ∧ (extendedOp op2 s).sp = s.sp ∧ (extendedOp op2 s).halted = s.halted := by
  unfold extendedOp
  dsimp only
  split
  · exact shiftOperand_control _ (operandOf_isData s _) s
  · exact testBit_control _ _ s
  · exact resetBit_control _ (operandOf_isData s _) s
  · exact setBit_control _ (operandOf_isData s _) s

theorem prefixed_control (op2 : Byte) (s : State) :
    (prefixed op2 s).pc = s.pc + 2#16 ∧ (prefixed op2 s).sp = s.sp ∧ (prefixed op2 s).halted = s.halted := by
  unfold prefixed
  split
  · exact extendedOp_control op2 s
  · exact unimplemented_control s op2 2

theorem halt_control (s : State) : (halt s).pc = s.pc + 1#16 ∧ (halt s).sp = s.sp := ⟨rfl, rfl⟩

theorem setIME_control (b : Bool) (s : State) : (setIME b s).pc = s.pc + 1#16 ∧ (setIME b s).sp = s.sp ∧ (setIME b s).halted = s.halted :=
  ⟨rfl, rfl, rfl⟩

theorem jump_control (nn : Word) (s : State) : (jump nn s).sp = s.sp ∧ (jump nn s).halted = s.halted := ⟨rfl, rfl⟩

theorem jumpIf_control (cc : Cond) (nn : Word) (s : State) : (jumpIf cc nn s).sp = s.sp ∧ (jumpIf cc nn s).halted = s.halted := by
  unfold jumpIf
  split <;> exact ⟨rfl, rfl⟩

theorem jumpHL_control (s : State) : (jumpHL s).sp = s.sp ∧ (jumpHL s).halted = s.halted := ⟨rfl, rfl⟩

theorem jumpRel_control (e : Byte) (s : State) : (jumpRel e s).sp = s.sp ∧ (jumpRel e s).halted = s.halted := ⟨rfl, rfl⟩

theorem jumpRelIf_control (cc : Cond) (e : Byte) (s : State) : (jumpRelIf cc e s).sp = s.sp ∧ (jumpRelIf cc e s).halted = s.halted := by
  unfold jumpRelIf
  split <;> exact ⟨rfl, rfl⟩

theorem call_halted (n : Nat) (target : Word) (s : State) : (call n target s).halted = s.halted := (s.advance n).push16_halted _

theorem callIf_halted (cc : Cond) (nn : Word) (s : State) : (callIf cc nn s).halted = s.halted := by
  unfold callIf
  split
  · exact call_halted 3 nn s
  · rfl

theorem ret_halted (s : State) : (ret s).halted = s.halted := by rw [ret_eq]

theorem retIf_halted (cc : Cond) (s : State) : (retIf cc s).halted = s.halted := by
  unfold retIf
  split
  · exact ret_halted s
  · rfl

theorem reti_halted (s : State) : (reti s).halted = s.halted := by rw [reti_eq]

/-! ### PC, SP and the halted flag after each instruction -/

/-- The bytes an instruction moves PC past when it transfers no control: its own, of STOP the first alone (R25, R262). -/
def passedBytes : Instr → Nat
  | .stop _ => 1
  | i => (encode i).length

/-- What `exec` makes of SP, PC and the halted flag: an exception to one of the three is one of the instructions its hypothesis leaves out. -/
theorem exec_control (i : Instr) (s : State) :
    ∃ t, exec i s = .next t ∧ (writesSP i = false → t.sp = s.sp) ∧
      (transfersControl i = false → t.pc = s.pc + BitVec.ofNat 16 (passedBytes i)) ∧ (i ≠ .halt → t.halted = s.halted) := by
  cases i
  all_goals refine ⟨_, rfl, fun h => ?_, fun h => ?_, fun h => ?_⟩
  case halt.refine_3 => exact absurd rfl h
  -- The lemma of the meaning settles all but the number of bytes and the exceptions.
  any_goals simp +decide only [Operand8.isData_reg, Operand8.isData_mem, State.advance_pc, State.advance_sp, State.advance_halted,
    loadReg_control, storeByte_control, stepHL_control, loadPair_control, storeSP_control, copyHLtoSP_control, pushPair_control, popPair_control,
    aluA_control, modify_control, decimalAdjust_control, complementA_control, setCarry_control, complementCarry_control, addHL_control,
    addPair_control, spOffsetTo_control, rotateA_control, shiftOperand_control, testBit_control, resetBit_control, setBit_control,
    prefixed_control, unimplemented_control, halt_control, setIME_control, jump_control, jumpIf_control, jumpHL_control, jumpRel_control,
    jumpRelIf_control, call_halted, callIf_halted, ret_halted, retIf_halted, reti_halted]
  -- The writers of SP and the transfers of control contradict their hypothesis; the number of bytes is computed.
  any_goals exact Bool.noConfusion h
  all_goals rfl

/-- Settles O14, by `exec_control`; the bytes passed are those the statement names. -/
theorem whoWritesPcAndSp : Obligations.WhoWritesPcAndSp := by
  intro i s
  obtain ⟨t, hexec, hsp, hpc, -⟩ := exec_control i s
  refine ⟨t, hexec, hsp, fun h => (hpc h).trans ?_⟩
  cases i <;> rfl

end Sys2Proof.Machine
end

section
/-! PROOFS. Which instructions write IME, and that none reads it (10_state.md R27): every operation does the same whatever IME is, so a change of IME
before a meaning is the same change after it, but for those that write IME. -/

namespace Sys2Proof.Machine

open Sys2Proof.Claims

/-! ### The operations -/

/-- The state with another IME. -/
def State.withIme (s : State) (b : Bool) : State := { s with ime := b }

@[simp] theorem State.withIme_af (s : State) (b : Bool) : (s.withIme b).af = s.af := rfl
@[simp] theorem State.withIme_bc (s : State) (b : Bool) : (s.withIme b).bc = s.bc := rfl
@[simp] theorem State.withIme_de (s : State) (b : Bool) : (s.withIme b).de = s.de := rfl
@[simp] theorem State.withIme_hl (s : State) (b : Bool) : (s.withIme b).hl = s.hl := rfl
@[simp] theorem State.withIme_sp (s : State) (b : Bool) : (s.withIme b).sp = s.sp := rfl
@[simp] theorem State.withIme_pc (s : State) (b : Bool) : (s.withIme b).pc = s.pc := rfl
@[simp] theorem State.r8_withIme (s : State) (b : Bool) (x : Reg8) : (s.withIme b).r8 x = s.r8 x := by cases x <;> rfl
@[simp] theorem State.r16_withIme (s : State) (b : Bool) (p : Reg16) : (s.withIme b).r16 p = s.r16 p := by cases p <;> rfl
@[simp] theorem State.flag_withIme (s : State) (b : Bool) (f : Flag) : (s.withIme b).flag f = s.flag f := rfl
@[simp] theorem State.byte_withIme (s : State) (b : Bool) (a : Word) : (s.withIme b).byte a = s.byte a := rfl
@[simp] theorem State.cond_withIme (s : State) (b : Bool) (cc : Cond) : (s.withIme b).cond cc = s.cond cc := by cases cc <;> rfl
@[simp] theorem State.operandByte_withIme (s : State) (b : Bool) (o : Operand8) : (s.withIme b).operandByte o = s.operandByte o := by
  cases o <;> simp [State.operandByte]
@[simp] theorem operandOf_withIme (s : State) (b : Bool) (z : BitVec 3) : operandOf (s.withIme b) z = operandOf s z := rfl

@[simp] theorem advance_withIme (s : State) (b : Bool) (n : Nat) : (s.withIme b).advance n = (s.advance n).withIme b := rfl

@[simp] theorem setR8_withIme (s : State) (b : Bool) (x : Reg8) (v : Byte) : (s.withIme b).setR8 x v = (s.setR8 x v).withIme b := by
  cases x <;> rfl

@[simp] theorem setR16_withIme (s : State) (b : Bool) (p : Reg16) (v : Word) : (s.withIme b).setR16 p v = (s.setR16 p v).withIme b := by
  cases p <;> rfl

@[simp] theorem setFlags_withIme (s : State) (b z n h c : Bool) : (s.withIme b).setFlags z n h c = (s.setFlags z n h c).withIme b := rfl

@[simp] theorem unimplemented_withIme (s : State) (b : Bool) (op : Byte) (n : Nat) :
    (s.withIme b).unimplemented op n = (s.unimplemented op n).withIme b := rfl

@[simp] theorem devWrite_withIme (s : State) (b : Bool) (k : Nat) (v : Byte) : (s.withIme b).devWrite k v = (s.devWrite k v).withIme b := rfl

@[simp] theorem ioWrite_withIme (s : State) (b : Bool) (k : Nat) (v : Byte) : (s.withIme b).ioWrite k v = (s.ioWrite k v).withIme b := by
  unfold State.ioWrite
  split_ifs <;> rfl

/-- A bus write looks at the address and at memory alone. -/
@[simp] theorem write_withIme (s : State) (b : Bool) (a : Word) (v : Byte) : (s.withIme b).write a v = (s.write a v).withIme b := by
  unfold State.write
  split
  case h_7 => exact ioWrite_withIme s b _ v
  case h_1 | h_9 => rfl
  all_goals exact devWrite_withIme s b _ v

@[simp] theorem writeWord_withIme (s : State) (b : Bool) (a v : Word) : (s.withIme b).writeWord a v = (s.writeWord a v).withIme b := by
  simp [State.writeWord]

@[simp] theorem push16_withIme (s : State) (b : Bool) (v : Word) : (s.withIme b).push16 v = (s.push16 v).withIme b :=
  writeWord_withIme { s with sp := s.sp - 2 } b _ v

@[simp] theorem setOperand_withIme (s : State) (b : Bool) (o : Operand8) (v : Byte) :
    (s.withIme b).setOperand o v = (s.setOperand o v).withIme b := by
  cases o <;> simp [State.setOperand]

/-! ### The shared meanings -/

section

variable (s : State) (b : Bool)

theorem loadReg_withIme (d : Reg8) (n : Nat) (o : Operand8) : loadReg d n o (s.withIme b) = (loadReg d n o s).withIme b := by simp [loadReg]

theorem storeByte_withIme (n : Nat) (a : Word) (v : Byte) : storeByte n a v (s.withIme b) = (storeByte n a v s).withIme b := by
  simp [storeByte]

theorem stepHL_withIme (d : Word) : stepHL d (s.withIme b) = (stepHL d s).withIme b := rfl

theorem loadPair_withIme (p : Reg16) (nn : Word) : loadPair p nn (s.withIme b) = (loadPair p nn s).withIme b := by simp [loadPair]

theorem storeSP_withIme (nn : Word) : storeSP nn (s.withIme b) = (storeSP nn s).withIme b := by simp [storeSP]

theorem copyHLtoSP_withIme : copyHLtoSP (s.withIme b) = (copyHLtoSP s).withIme b := rfl

theorem pushPair_withIme (p : Reg16) : pushPair p (s.withIme b) = (pushPair p s).withIme b := by simp [pushPair]

theorem popPair_withIme (p : Reg16) : popPair p (s.withIme b) = (popPair p s).withIme b := by
  rw [popPair_eq, popPair_eq]
  exact setR16_withIme { s.advance 1 with sp := s.sp + 2 } b p _

theorem aluA_withIme (op : AluOp) (n : Nat) (o : Operand8) : aluA op n o (s.withIme b) = (aluA op n o s).withIme b := by
  simp only [aluA, State.getThen_eq]
  split <;> simp

theorem modify_withIme (n : Nat) (o : Operand8) (f : Byte → Bool → Flagged) : modify n o f (s.withIme b) = (modify n o f s).withIme b := by
  simp [modify]

theorem decimalAdjust_withIme : decimalAdjust (s.withIme b) = (decimalAdjust s).withIme b := rfl

theorem complementA_withIme : complementA (s.withIme b) = (complementA s).withIme b := rfl

theorem setCarry_withIme : setCarry (s.withIme b) = (setCarry s).withIme b := rfl

theorem complementCarry_withIme : complementCarry (s.withIme b) = (complementCarry s).withIme b := rfl

theorem addHL_withIme (p : Reg16) : addHL p (s.withIme b) = (addHL p s).withIme b := by simp [addHL]

theorem addPair_withIme (p : Reg16) (d : Word) : addPair p d (s.withIme b) = (addPair p d s).withIme b := by simp [addPair]

theorem spOffsetTo_withIme (p : Reg16) (e : Byte) : spOffsetTo p e (s.withIme b) = (spOffsetTo p e s).withIme b := by simp [spOffsetTo]

theorem rotateA_withIme (f : Shift) : rotateA f (s.withIme b) = (rotateA f s).withIme b := rfl

theorem shiftOperand_withIme (f : Shift) (o : Operand8) : shiftOperand f o (s.withIme b) = (shiftOperand f o s).withIme b :=
  modify_withIme s b 2 o _

theorem testBit_withIme (k : BitVec 3) (o : Operand8) : testBit k o (s.withIme b) = (testBit k o s).withIme b := by simp [testBit]

theorem resetBit_withIme (k : BitVec 3) (o : Operand8) : resetBit k o (s.withIme b) = (resetBit k o s).withIme b := by simp [resetBit]

theorem setBit_withIme (k : BitVec 3) (o : Operand8) : setBit k o (s.withIme b) = (setBit k o s).withIme b := by simp [setBit]

theorem extendedOp_withIme (op2 : Byte) : extendedOp op2 (s.withIme b) = (extendedOp op2 s).withIme b := by
  unfold extendedOp
  dsimp only
  rw [operandOf_withIme]
  split
  · exact shiftOperand_withIme s b _ _
  · exact testBit_withIme s b _ _
  · exact resetBit_withIme s b _ _
  · exact setBit_withIme s b _ _

theorem prefixed_withIme (op2 : Byte) : prefixed op2 (s.withIme b) = (prefixed op2 s).withIme b := by
  unfold prefixed
  split
  · exact extendedOp_withIme s b op2
  · rfl

theorem halt_withIme : halt (s.withIme b) = (halt s).withIme b := rfl

theorem jump_withIme (nn : Word) : jump nn (s.withIme b) = (jump nn s).withIme b := rfl

theorem jumpIf_withIme (cc : Cond) (nn : Word) : jumpIf cc nn (s.withIme b) = (jumpIf cc nn s).withIme b := by
  unfold jumpIf
  rw [State.cond_withIme]
  split <;> rfl

theorem jumpHL_withIme : jumpHL (s.withIme b) = (jumpHL s).withIme b := rfl

theorem jumpRel_withIme (e : Byte) : jumpRel e (s.withIme b) = (jumpRel e s).withIme b := rfl

theorem jumpRelIf_withIme (cc : Cond) (e : Byte) : jumpRelIf cc e (s.withIme b) = (jumpRelIf cc e s).withIme b := by
  unfold jumpRelIf
  rw [State.cond_withIme]
  split <;> rfl

theorem call_withIme (n : Nat) (target : Word) : call n target (s.withIme b) = (call n target s).withIme b := by
  simp only [call, advance_withIme, State.withIme_pc, push16_withIme]
  rfl

theorem callIf_withIme (cc : Cond) (nn : Word) : callIf cc nn (s.withIme b) = (callIf cc nn s).withIme b := by
  unfold callIf
  rw [State.cond_withIme]
  split
  · exact call_withIme s b 3 nn
  · rfl

theorem ret_withIme : ret (s.withIme b) = (ret s).withIme b := by
  rw [ret_eq, ret_eq]
  rfl

theorem retIf_withIme (cc : Cond) : retIf cc (s.withIme b) = (retIf cc s).withIme b := by
  unfold retIf
  rw [State.cond_withIme]
  split
  · exact ret_withIme s b
  · rfl

/-- RETI sets IME whatever it was. -/
theorem reti_withIme : reti (s.withIme b) = (reti s).withIme true := by
  rw [reti_eq, reti_eq]
  rfl

/-- DI and EI write IME whatever it was. -/
theorem setIME_withIme (c : Bool) : setIME c (s.withIme b) = (setIME c s).withIme c := rfl

end

/-! ### The instructions -/

/-- IME before an instruction reaches IME after it alone, as `imeAfter` says. -/
theorem exec_withIme (i : Instr) (s : State) : ∃ t, exec i s = .next t ∧ ∀ b, exec i (s.withIme b) = .next (t.withIme (imeAfter i b)) := by
  cases i
  all_goals refine ⟨_, rfl, fun b => congrArg Host.Outcome.next ?_⟩
  all_goals simp only [loadReg_withIme, storeByte_withIme, stepHL_withIme, loadPair_withIme, storeSP_withIme, copyHLtoSP_withIme, pushPair_withIme,
    popPair_withIme, aluA_withIme, modify_withIme, decimalAdjust_withIme, complementA_withIme, setCarry_withIme, complementCarry_withIme,
    addHL_withIme, addPair_withIme, spOffsetTo_withIme, rotateA_withIme, shiftOperand_withIme, testBit_withIme, resetBit_withIme, setBit_withIme,
    prefixed_withIme, halt_withIme, setIME_withIme, jump_withIme, jumpIf_withIme, jumpHL_withIme, jumpRel_withIme, jumpRelIf_withIme, call_withIme,
    callIf_withIme, ret_withIme, retIf_withIme, reti_withIme, unimplemented_withIme, advance_withIme, State.withIme_bc, State.withIme_de,
    State.withIme_hl, State.r8_withIme]
  all_goals rfl

/-- Settles O15: IME by `exec_withIme`, the halted flag by `exec_control`. -/
theorem whoWritesImeAndHalted : Obligations.WhoWritesImeAndHalted := by
  intro i s
  obtain ⟨t, hexec, hime⟩ := exec_withIme i s
  refine ⟨t, hexec, hime, ?_⟩
  obtain ⟨u, hexec', -, -, hhalted⟩ := exec_control i s
  obtain rfl : t = u := Host.Outcome.next.inj (hexec.symm.trans hexec')
  by_cases hi : i = .halt
  · subst hi
    cases hexec
    simp [halt]
  · rw [hhalted hi, beq_false_of_ne hi, Bool.or_false]

end Sys2Proof.Machine
end

section
/-! PROOFS. The memory bus (20_memory.md): the windows and the bus read, what a CPU write and a word access change, the echo of work RAM, and what no
instruction reaches. -/

namespace Sys2Proof.Machine

open Sys2Proof.Claims

/-! ### Windows -/

/-- The window of an address is the one whose bounds hold it (R60). -/
theorem Window.ofAddr_eq_some_iff (a : Word) (w : Window) :
    Window.ofAddr a = some w ↔ (windowBounds w).1 ≤ a.toNat ∧ a.toNat ≤ (windowBounds w).2 := by
  have ha := a.isLt
  rcases Window.ofAddr_cases a with ⟨hw, h⟩ | ⟨hw, h⟩ | ⟨hw, h⟩ | ⟨hw, h⟩ | ⟨hw, h⟩ | ⟨hw, h⟩ | ⟨hw, h⟩ | ⟨hw, h⟩ <;> rw [hw]
  all_goals cases w <;> simp only [Option.some.injEq, reduceCtorEq, true_iff, false_iff, windowBounds] <;> omega

theorem Window.exists_ofAddr (a : Word) : ∃ w, Window.ofAddr a = some w := by
  rcases Window.ofAddr_cases a with ⟨hw, -⟩ | ⟨hw, -⟩ | ⟨hw, -⟩ | ⟨hw, -⟩ | ⟨hw, -⟩ | ⟨hw, -⟩ | ⟨hw, -⟩ | ⟨hw, -⟩ <;> exact ⟨_, hw⟩

/-- The cell of an address, by its window (R69). -/
theorem Memory.home_eq_of_window (a : Word) : Memory.home a = if Window.ofAddr a = some .echo then a.toNat - 0x2000 else a.toNat := by
  refine if_congr ?_ rfl rfl
  rw [Window.ofAddr_eq_some_iff]
  simp only [windowBounds]
  omega

/-- Settles O16: the bounds by `Window.ofAddr_eq_some_iff`, the byte read by the cell of the address. -/
theorem everyAddressHasOneWindow : Obligations.EveryAddressHasOneWindow := by
  refine fun a => ⟨Window.exists_ofAddr a, Window.ofAddr_eq_some_iff a, fun s => ?_⟩
  rw [State.busRead_eq, State.byte_eq_dev, Memory.home_eq_of_window]

/-! ### Writes -/

/-- Settles O17: what a store leaves is `stored_write`, the rest of the state `State.write_eq`. -/
theorem busWriteEffect : Obligations.BusWriteEffect := fun s a v => ⟨stored_write s a v, State.write_eq s a v⟩

/-- Between the cartridge and the I/O window every address is plain storage (R66 to R70). -/
theorem storedAs_of_plain {a : Word} (hlo : 0x8000 ≤ a.toNat) (hhi : a.toNat < 0xFF00) (v old : Byte) : storedAs a v old = v := by
  have hne : ∀ b : Word, 0xFF00 ≤ b.toNat → a ≠ b := fun b hb hab => by subst hab; omega
  rw [storedAs, if_neg (not_or.2 ⟨by omega, hne _ (by decide)⟩), if_neg (hne _ (by decide))]

/-- Two addresses of one plain cell: a store at the one is read at the other. -/
theorem State.byte_write_of_sameCell (s : State) {a b : Word} (hab : SameCell a b) (hlo : 0x8000 ≤ a.toNat) (hhi : a.toNat < 0xFF00) (v : Byte) :
    (s.write a v).byte b = v := by
  obtain ⟨hcell, -, -⟩ := stored_write s a v
  rw [hcell b hab, storedAs_of_plain hlo hhi]

theorem toNat_add_ofNat (a : Word) {k : Nat} (h : a.toNat + k < 0x10000) : (a + BitVec.ofNat 16 k).toNat = a.toNat + k := by
  rw [BitVec.toNat_add, BitVec.toNat_ofNat]
  omega

theorem toNat_workRam {k : Nat} (hk : k < 0x2000) : (0xC000 + BitVec.ofNat 16 k : Word).toNat = 0xC000 + k :=
  toNat_add_ofNat 0xC000 (show 0xC000 + k < 0x10000 by omega)

theorem toNat_echo {k : Nat} (hk : k < 0x1E00) : (0xE000 + BitVec.ofNat 16 k : Word).toNat = 0xE000 + k :=
  toNat_add_ofNat 0xE000 (show 0xE000 + k < 0x10000 by omega)

theorem sameCell_symm {a b : Word} (h : SameCell a b) : SameCell b a :=
  (sameCell_iff b a).2 ((sameCell_iff a b).1 h).symm

/-- Below offset 0x1E00 the echo address and the work-RAM address are one cell. -/
theorem sameCell_workRam_echo {k : Nat} (hk : k < 0x1E00) : SameCell (0xC000 + BitVec.ofNat 16 k) (0xE000 + BitVec.ofNat 16 k) := by
  have hram := toNat_workRam (k := k) (by omega)
  have hecho := toNat_echo hk
  exact .inr (.inl ⟨by omega, by omega, by omega⟩)

/-- From offset 0x1E00 on a work-RAM address is alone in its cell. -/
theorem eq_of_sameCell_workRam {k : Nat} (hlo : 0x1E00 ≤ k) (hhi : k < 0x2000) {b : Word} (h : SameCell (0xC000 + BitVec.ofNat 16 k) b) :
    b = 0xC000 + BitVec.ofNat 16 k := by
  have hram := toNat_workRam hhi
  exact h.resolve_right (by omega)

/-- Settles O18: an access to a cell is the same at each of its addresses, and which addresses share one depends on the offset. -/
theorem echoAliasesWorkRam : Obligations.EchoAliasesWorkRam := by
  refine ⟨fun s k v hk => ?_, fun s k v b hlo hhi hb => ?_⟩
  · have hcell := sameCell_workRam_echo hk
    have hram := toNat_workRam (k := k) (by omega)
    have hecho := toNat_echo hk
    exact ⟨s.byte_of_sameCell hcell, s.byte_write_of_sameCell (sameCell_symm hcell) (by omega) (by omega) v,
      s.byte_write_of_sameCell hcell (by omega) (by omega) v⟩
  · obtain ⟨-, hother, -⟩ := stored_write s (0xC000 + BitVec.ofNat 16 k) v
    exact hother b fun h => hb (eq_of_sameCell_workRam hlo hhi h)

/-- Settles O19: each of the four operations by its own law. -/
theorem wordAccessesAndTheStack : Obligations.WordAccessesAndTheStack := fun s a v =>
  ⟨⟨storedWord_writeWord s a v, s.writeWord_eq a v⟩, s.readWordThen_eq a, ⟨storedWord_push16 s v, s.push16_eq v⟩, s.popThen_eq⟩

/-! ### What no instruction reaches -/

/-- Settles O20: `exec_keeps`, its cells read at their addresses. -/
theorem instructionsLeaveRomAndDevicesAlone : Obligations.InstructionsLeaveRomAndDevicesAlone := by
  intro i s
  obtain ⟨t, hexec, hk⟩ := exec_keeps i s
  refine ⟨t, hexec, fun a ha => ?_, hk.ly, hk.cyc, hk.divAcc, hk.timaAcc, hk.mode, hk.dot, hk.fb, hk.frames⟩
  rw [State.byte_eq_dev, State.byte_eq_dev, Memory.home_of_not_echo (by omega)]
  exact hk.rom a.toNat ha

end Sys2Proof.Machine
end

section
/-! PROOFS. The opcode byte of a decoded instruction (30_encoding.md R105): the decoder keeps it, row by row of the primary map. -/

namespace Sys2Proof

/-- The instructions of a row start with byte `b0`, whatever two bytes follow. -/
def Row.StartsWith (r : Row) (b0 : Byte) : Prop := ∀ b1 b2, (encode (r.instr b1 b2)).head? = some b0

/-- The rows are those of the opcode bytes from `k` on. -/
def RowsFrom (k : Nat) (rows : List Row) : Prop := ∀ p ∈ rows.zipIdx k, p.1.StartsWith (BitVec.ofNat 8 p.2)

theorem rowsFrom_nil (k : Nat) : RowsFrom k [] := nofun

theorem rowsFrom_cons {k : Nat} {r : Row} {rows : List Row} (hr : r.StartsWith (BitVec.ofNat 8 k)) (hrows : RowsFrom (k + 1) rows) :
    RowsFrom k (r :: rows) :=
  List.forall_mem_cons.2 ⟨hr, hrows⟩

theorem extended_head : ∀ op2 : Byte, (encode (extended op2)).head? = some 0xCB := by decide

theorem primaryBlock0_rowsFrom : RowsFrom 0x00 primaryBlock0 := by
  iterate 64 refine rowsFrom_cons (fun _ _ => rfl) ?_
  exact rowsFrom_nil _

theorem primaryBlock1_rowsFrom : RowsFrom 0x40 primaryBlock1 := by
  iterate 64 refine rowsFrom_cons (fun _ _ => rfl) ?_
  exact rowsFrom_nil _

theorem primaryBlock2_rowsFrom : RowsFrom 0x80 primaryBlock2 := by
  iterate 64 refine rowsFrom_cons (fun _ _ => rfl) ?_
  exact rowsFrom_nil _

/-- The block with 0xCB, whose row is the extended map. -/
theorem primaryBlock3_rowsFrom : RowsFrom 0xC0 primaryBlock3 := by
  iterate 11 refine rowsFrom_cons (fun _ _ => rfl) ?_
  refine rowsFrom_cons (fun op2 _ => extended_head op2) ?_
  iterate 52 refine rowsFrom_cons (fun _ _ => rfl) ?_
  exact rowsFrom_nil _

theorem primaryMap_rowsFrom : RowsFrom 0 primaryMap := by
  obtain ⟨h0, h1, h2, -⟩ := primaryBlock_lengths
  simp only [RowsFrom, primaryMap, List.zipIdx_append, List.length_append, h0, h1, h2, List.forall_mem_append]
  exact ⟨⟨⟨primaryBlock0_rowsFrom, primaryBlock1_rowsFrom⟩, primaryBlock2_rowsFrom⟩, primaryBlock3_rowsFrom⟩

theorem primary_startsWith (b0 : Byte) : (primary b0).StartsWith b0 := by
  have hmem : (primary b0, b0.toNat) ∈ primaryMap.zipIdx := List.mk_mem_zipIdx_iff_getElem?.2 (by simp [primary])
  simpa using primaryMap_rowsFrom _ hmem

/-- What is decoded has the opcode byte it was decoded from. -/
theorem encode_decodeBytes_head (b0 b1 b2 : Byte) : (encode (decodeBytes b0 b1 b2)).head? = some b0 := primary_startsWith b0 b1 b2

end Sys2Proof
end

section
/-! PROOFS. Which step latches a fault (46_system.md R262, R266 to R268, 60_exceptions.md R300 to R302): an instruction faults by its opcode byte
alone, and the devices and the dispatch leave the latch as it is. -/

namespace Sys2Proof.Machine

open Sys2Proof.Claims

/-! ### The fault latch after each shared meaning -/

@[simp] theorem State.setOperand_fault (s : State) (o : Operand8) (v : Byte) : (s.setOperand o v).fault = s.fault := by
  cases o <;> simp [State.setOperand]

@[simp] theorem State.push16_fault (s : State) (v : Word) : (s.push16 v).fault = s.fault := by rw [State.push16_eq]

section

variable (s : State)

theorem loadReg_fault (d : Reg8) (n : Nat) (o : Operand8) : (loadReg d n o s).fault = s.fault := by simp [loadReg]

theorem storeByte_fault (n : Nat) (a : Word) (v : Byte) : (storeByte n a v s).fault = s.fault := by simp [storeByte]

theorem stepHL_fault (d : Word) : (stepHL d s).fault = s.fault := by simp only [stepHL]

theorem loadPair_fault (p : Reg16) (nn : Word) : (loadPair p nn s).fault = s.fault := by simp [loadPair]

theorem storeSP_fault (nn : Word) : (storeSP nn s).fault = s.fault := by simp [storeSP, State.writeWord]

theorem copyHLtoSP_fault : (copyHLtoSP s).fault = s.fault := rfl

theorem pushPair_fault (p : Reg16) : (pushPair p s).fault = s.fault := by simp [pushPair]

theorem popPair_fault (p : Reg16) : (popPair p s).fault = s.fault := by simp [popPair_eq]

theorem aluA_fault (op : AluOp) (n : Nat) (o : Operand8) : (aluA op n o s).fault = s.fault := by
  simp only [aluA, State.getThen_eq]
  split <;> simp

theorem modify_fault (n : Nat) (o : Operand8) (f : Byte → Bool → Flagged) : (modify n o f s).fault = s.fault := by simp [modify]

theorem decimalAdjust_fault : (decimalAdjust s).fault = s.fault := rfl

theorem complementA_fault : (complementA s).fault = s.fault := rfl

theorem setCarry_fault : (setCarry s).fault = s.fault := rfl

theorem complementCarry_fault : (complementCarry s).fault = s.fault := rfl

theorem addHL_fault (p : Reg16) : (addHL p s).fault = s.fault := rfl

theorem addPair_fault (p : Reg16) (d : Word) : (addPair p d s).fault = s.fault := by simp [addPair]

theorem spOffsetTo_fault (p : Reg16) (e : Byte) : (spOffsetTo p e s).fault = s.fault := by simp [spOffsetTo]

theorem rotateA_fault (f : Shift) : (rotateA f s).fault = s.fault := rfl

theorem shiftOperand_fault (f : Shift) (o : Operand8) : (shiftOperand f o s).fault = s.fault := modify_fault s 2 o _

theorem testBit_fault (b : BitVec 3) (o : Operand8) : (testBit b o s).fault = s.fault := by simp [testBit]

theorem resetBit_fault (b : BitVec 3) (o : Operand8) : (resetBit b o s).fault = s.fault := by simp [resetBit]

theorem setBit_fault (b : BitVec 3) (o : Operand8) : (setBit b o s).fault = s.fault := by simp [setBit]

/-- Every second byte is implemented (D1), so the prefix never faults. -/
theorem prefixed_fault (op2 : Byte) : (prefixed op2 s).fault = s.fault := by
  rw [prefixed, if_pos (show Config.implementedCB op2 = true from rfl)]
  unfold extendedOp
  dsimp only
  split
  · exact shiftOperand_fault s _ _
  · exact testBit_fault s _ _
  · exact resetBit_fault s _ _
  · exact setBit_fault s _ _

theorem halt_fault : (halt s).fault = s.fault := rfl

theorem setIME_fault (b : Bool) : (setIME b s).fault = s.fault := rfl

theorem jump_fault (nn : Word) : (jump nn s).fault = s.fault := rfl

theorem jumpIf_fault (cc : Cond) (nn : Word) : (jumpIf cc nn s).fault = s.fault := by
  unfold jumpIf
  split <;> rfl

theorem jumpHL_fault : (jumpHL s).fault = s.fault := rfl

theorem jumpRel_fault (e : Byte) : (jumpRel e s).fault = s.fault := rfl

theorem jumpRelIf_fault (cc : Cond) (e : Byte) : (jumpRelIf cc e s).fault = s.fault := by
  unfold jumpRelIf
  split <;> rfl

theorem call_fault (n : Nat) (target : Word) : (call n target s).fault = s.fault := (s.advance n).push16_fault _

theorem callIf_fault (cc : Cond) (nn : Word) : (callIf cc nn s).fault = s.fault := by
  unfold callIf
  split
  · exact call_fault s 3 nn
  · rfl

theorem ret_fault : (ret s).fault = s.fault := by rw [ret_eq]

theorem retIf_fault (cc : Cond) : (retIf cc s).fault = s.fault := by
  unfold retIf
  split
  · exact ret_fault s
  · rfl

theorem reti_fault : (reti s).fault = s.fault := by rw [reti_eq]

end

/-! ### The instructions -/

/-- An instruction whose opcode byte is implemented leaves the latch as it is. -/
theorem exec_fault (i : Instr) (s : State) :
    ∃ t, exec i s = .next t ∧ ((∀ op ∈ unimplementedOpcodes, (encode i).head? ≠ some op) → t.fault = s.fault) := by
  cases i
  all_goals refine ⟨_, rfl, fun himpl => ?_⟩
  case stop | illegal_D3 | illegal_DB | illegal_DD | illegal_E3 | illegal_E4 | illegal_EB | illegal_EC | illegal_ED | illegal_F4 | illegal_FC |
      illegal_FD =>
    exact absurd rfl (himpl _ (by decide))
  all_goals
    simp only [loadReg_fault, storeByte_fault, stepHL_fault, loadPair_fault, storeSP_fault, copyHLtoSP_fault, pushPair_fault, popPair_fault,
      aluA_fault, modify_fault, decimalAdjust_fault, complementA_fault, setCarry_fault, complementCarry_fault, addHL_fault, addPair_fault,
      spOffsetTo_fault, rotateA_fault, shiftOperand_fault, testBit_fault, resetBit_fault, setBit_fault, prefixed_fault, halt_fault, setIME_fault,
      jump_fault, jumpIf_fault, jumpHL_fault, jumpRel_fault, jumpRelIf_fault, call_fault, callIf_fault, ret_fault, retIf_fault, reti_fault,
      State.advance_fault]

/-- What an implemented opcode byte decodes to leaves the latch as it is. -/
theorem exec_decodeBytes_fault {b0 : Byte} (h : b0 ∉ unimplementedOpcodes) (b1 b2 : Byte) (s : State) :
    ∃ t, exec (decodeBytes b0 b1 b2) s = .next t ∧ t.fault = s.fault := by
  obtain ⟨t, hexec, hkept⟩ := exec_fault (decodeBytes b0 b1 b2) s
  refine ⟨t, hexec, hkept fun op hop hhead => h ?_⟩
  rw [encode_decodeBytes_head, Option.some.injEq] at hhead
  exact hhead ▸ hop

/-- The bytes of R107 and STOP's are those outside IMPLEMENTED (D1, D14). -/
theorem implemented_eq_false_iff (b0 : Byte) : Config.implemented b0 = false ↔ b0 ∈ unimplementedOpcodes := by
  rw [Config.implemented, Bool.not_eq_false', List.contains_iff_mem, unimplementedOpcodes]

/-! ### The step -/

theorem charge_fault (i : Instr) (s t : State) : (charge i s t).1.fault = t.fault := by
  unfold charge
  split <;> rfl

/-- The devices and the dispatch neither latch nor clear a fault (R303). -/
theorem afterCpu_fault (c : Nat) (t : State) : (afterCpu c t).fault = t.fault := by
  unfold afterCpu
  split
  · rfl
  · rw [interruptDispatch_eq, gfxStep, gfxLoop_eq, timerStep_eq]

/-- A byte outside IMPLEMENTED at PC: the step latches its fault. -/
theorem step_fault_of_mem {s : State} (hfault : s.fault = none) (hrun : s.halted = false) (hop : s.byte s.pc ∈ unimplementedOpcodes) :
    ∃ t, step s = .next t ∧ t.fault = some (.unimplementedOpcode (s.byte s.pc) s.pc) := by
  have hexec := exec_decodeBytes_of_not_implemented ((implemented_eq_false_iff _).2 hop) (s.byte (s.pc + 1)) (s.byte (s.pc + 2)) s
  refine ⟨_, step_of_cpuStep hfault (cpuStep_running hrun (fetch_eq s) hexec), ?_⟩
  rw [afterCpu_fault, charge_fault]
  exact State.raise_fault_of_none _ _ hfault

/-- Any other byte at PC: the step latches nothing. -/
theorem step_fault_of_not_mem {s : State} (hfault : s.fault = none) (hrun : s.halted = false) (hop : s.byte s.pc ∉ unimplementedOpcodes) :
    ∃ t, step s = .next t ∧ t.fault = none := by
  obtain ⟨t, hexec, hkept⟩ := exec_decodeBytes_fault hop (s.byte (s.pc + 1)) (s.byte (s.pc + 2)) s
  refine ⟨_, step_of_cpuStep hfault (cpuStep_running hrun (fetch_eq s) hexec), ?_⟩
  rw [afterCpu_fault, charge_fault, hkept, hfault]

/-- A halted machine fetches nothing, and its step latches nothing. -/
theorem step_fault_of_halted {s : State} (hfault : s.fault = none) (hhalt : s.halted = true) : ∃ t, step s = .next t ∧ t.fault = none :=
  ⟨_, step_of_cpuStep hfault (cpuStep_halted hhalt), (afterCpu_fault _ _).trans hfault⟩

/-- Settles O8: halted, at an unimplemented byte, or at any other. -/
theorem onlyUnimplementedOpcodesFault : Obligations.OnlyUnimplementedOpcodesFault := by
  intro s hfault
  cases hhalt : s.halted
  case true =>
    obtain ⟨t, hstep, ht⟩ := step_fault_of_halted hfault hhalt
    exact ⟨t, hstep, by simp [ht], by simp [ht]⟩
  case false =>
    by_cases hop : s.byte s.pc ∈ unimplementedOpcodes
    · obtain ⟨t, hstep, ht⟩ := step_fault_of_mem hfault hhalt hop
      exact ⟨t, hstep, by simp [ht, hop], fun f hf => (Option.some.inj (ht.symm.trans hf)).symm⟩
    · obtain ⟨t, hstep, ht⟩ := step_fault_of_not_mem hfault hhalt hop
      exact ⟨t, hstep, by simp [ht, hop], by simp [ht]⟩

end Sys2Proof.Machine
end

section
/-! PROOFS. The decoder and the encoder (30_encoding.md R100 to R112). A field is read back from the byte or the word it is laid in; an
instruction's bytes decode to it; and row by row of the primary map, what is decoded is well-formed and keeps its operand bytes. -/

namespace Sys2Proof

open Sys2Proof.Claims Sys2Proof.Machine

/-! ### The fields of an encoding -/

/-- The two bytes of a 16-bit immediate make it up again (R103). -/
theorem append_bytes (nn : Word) : nn.extractLsb' 8 8 ++ nn.extractLsb' 0 8 = nn :=
  (BitVec.extractLsb'_append_extractLsb'_eq_extractLsb' (start₁ := 0) (start₂ := 8) rfl).trans BitVec.extractLsb'_eq_self

theorem bytesD16_append (op lo hi : Byte) : bytesD16 op (hi ++ lo) = [op, lo, hi] :=
  congrArg₂ (fun lo hi => [op, lo, hi]) (loByte_mkWord hi lo) (hiByte_mkWord hi lo)

/-- The extended map reads the fields of a `BIT` byte back: the entry is `z`, the bit number `b` (R101, R106); so for `RES` and `SET`. -/
theorem extended_bit : ∀ b z, extended (bitByte 1 b z) = atCode extendedBit rfl z b := by decide

theorem extended_res : ∀ b z, extended (bitByte 2 b z) = atCode extendedRes rfl z b := by decide

theorem extended_set : ∀ b z, extended (bitByte 3 b z) = atCode extendedSet rfl z b := by decide

/-! ### Decoding what is encoded -/

/-- A row with a 16-bit immediate reads it back from its two bytes (R103). -/
theorem decode_bytesD16 {op : Byte} {f : Word → Instr} (hrow : primary op = .d16 f) (nn : Word) (rest : List Byte) :
    decode (bytesD16 op nn ++ rest) = .ok (f nn, rest) := by
  simp [decode, bytesD16, hrow, append_bytes]

/-- Behind 0xCB the second byte alone tells the instruction (R106). -/
theorem decode_extended {op2 : Byte} {i : Instr} (h : extended op2 = i) (rest : List Byte) : decode (0xCB :: op2 :: rest) = .ok (i, rest) :=
  h ▸ rfl

/-- Settles O1: the operand of an immediate and the bit number of an extended instruction are read back by the lemmas of their fields; every
other encoding is fixed bytes and an operand byte, which the rows of the two maps read as they stand. -/
theorem decodeOfEncode : Obligations.DecodeOfEncode := by
  intro i hwf rest
  cases i
  case prefixCB op2 => exact absurd hwf (by simp [WellFormed, Config.implementedCB])
  case ld_BC_nn nn | ld_DE_nn nn | ld_HL_nn nn | ld_SP_nn nn | ld_atnn_SP nn | ld_atnn_A nn | ld_A_atnn nn | jp_nn nn | jp_NZ_nn nn | jp_Z_nn nn |
      jp_NC_nn nn | jp_C_nn nn | call_nn nn | call_NZ_nn nn | call_Z_nn nn | call_NC_nn nn | call_C_nn nn =>
    exact decode_bytesD16 rfl nn rest
  case bit_b_B b | bit_b_C b | bit_b_D b | bit_b_E b | bit_b_H b | bit_b_L b | bit_b_atHL b | bit_b_A b =>
    exact decode_extended (extended_bit b _) rest
  case res_b_B b | res_b_C b | res_b_D b | res_b_E b | res_b_H b | res_b_L b | res_b_atHL b | res_b_A b =>
    exact decode_extended (extended_res b _) rest
  case set_b_B b | set_b_C b | set_b_D b | set_b_E b | set_b_H b | set_b_L b | set_b_atHL b | set_b_A b =>
    exact decode_extended (extended_set b _) rest
  all_goals rfl

theorem decode_encode (i : Instr) (hwf : WellFormed i = true) : decode (encode i) = .ok (i, []) := by
  simpa using decodeOfEncode i hwf []

/-- Settles O3: each word is the encoding of its instruction. -/
theorem sampleWordsDecode : Obligations.SampleWordsDecode :=
  ⟨decode_encode (.ld_BC_nn 0x1234) rfl, decode_encode (.ld_A_n 0x81) rfl, decode_encode .ld_A_B rfl, decode_encode .halt rfl,
    decode_encode .add_A_A rfl, decode_encode (.add_SP_e 0x02) rfl, decode_encode (.jp_Z_nn 0x8000) rfl, decode_encode .rst_28H rfl,
    decode_encode .swap_A rfl, decode_encode (.set_b_E 1) rfl, decode_encode (.bit_b_atHL 6) rfl⟩

/-! ### Encoding what is decoded -/

/-- The operand bytes of a row's instructions, after the opcode byte: those of the two that follow that its format reads (R100). A 16-bit
immediate is split as the encoder splits it, so that each row agrees by computation. -/
def Row.operandBytes (r : Row) (b1 b2 : Byte) : List Byte :=
  match r with
  | .op _ => []
  | .d8 _ | .e8 _ | .cb => [b1]
  | .d16 _ => (bytesD16 0 (b2 ++ b1)).tail

/-- With the opcode byte before them they are as many of the bytes as the row's length says (R112). -/
theorem Row.cons_operandBytes (r : Row) (b0 b1 b2 : Byte) (rest : List Byte) :
    b0 :: r.operandBytes b1 b2 = (b0 :: b1 :: b2 :: rest).take r.length := by
  cases r <;> simp [Row.operandBytes, Row.length, bytesD16_append]

/-- The row makes well-formed instructions only, and their encodings keep its operand bytes. -/
def Row.KeepsOperands (r : Row) : Prop :=
  ∀ b1 b2, WellFormed (r.instr b1 b2) = true ∧ (encode (r.instr b1 b2)).tail = r.operandBytes b1 b2

theorem keepsOperands_cb : Row.cb.KeepsOperands := fun op2 _ =>
  (by decide : ∀ op2, WellFormed (extended op2) = true ∧ (encode (extended op2)).tail = [op2]) op2

/-- Row by row; the one before the last 52 is 0xCB's. -/
theorem primaryMap_keepsOperands : ∀ r ∈ primaryMap, r.KeepsOperands := by
  iterate 203 refine List.forall_mem_cons.2 ⟨fun _ _ => ⟨rfl, rfl⟩, ?_⟩
  refine List.forall_mem_cons.2 ⟨keepsOperands_cb, ?_⟩
  iterate 52 refine List.forall_mem_cons.2 ⟨fun _ _ => ⟨rfl, rfl⟩, ?_⟩
  exact List.forall_mem_nil _

theorem primary_keepsOperands (b0 : Byte) : (primary b0).KeepsOperands := primaryMap_keepsOperands _ (List.get_mem _ _)

/-- What is decoded has as many of the bytes as the row of its opcode byte says (R112): the first by `encode_decodeBytes_head`, the others by
the row. -/
theorem encode_decodeBytes (b0 b1 b2 : Byte) (rest : List Byte) :
    encode (decodeBytes b0 b1 b2) = (b0 :: b1 :: b2 :: rest).take (primary b0).length := by
  have htail : (encode (decodeBytes b0 b1 b2)).tail = (primary b0).operandBytes b1 b2 := (primary_keepsOperands b0 b1 b2).2
  rw [List.eq_cons_of_mem_head? (encode_decodeBytes_head b0 b1 b2), htail, Row.cons_operandBytes]

theorem wellFormed_decodeBytes (b0 b1 b2 : Byte) : WellFormed (decodeBytes b0 b1 b2) = true := (primary_keepsOperands b0 b1 b2).1

/-- Settles O2: the bytes the encoding leaves out are those past the row's length. -/
theorem encodeOfDecode : Obligations.EncodeOfDecode := fun b0 b1 b2 =>
  ⟨wellFormed_decodeBytes b0 b1 b2, [b0, b1, b2].drop (primary b0).length, by rw [encode_decodeBytes b0 b1 b2 [], List.take_append_drop]⟩

/-! ### The length -/

theorem Row.length_le (r : Row) : r.length ≤ 3 := by cases r <;> simp [Row.length]

/-- The row's format says the length the spec lists for the opcode byte (R112). -/
theorem primary_length : ∀ b0 : Byte, (primary b0).length = lengthOf b0 := by decide

/-- Settles O4: the bytes of the length are the encoding of what they decode to, so both decodings are those of `decodeOfEncode`. -/
theorem lengthByFirstByte : Obligations.LengthByFirstByte := by
  intro b0 b1 b2 rest
  have hwf := wellFormed_decodeBytes b0 b1 b2
  have hcode := encode_decodeBytes b0 b1 b2 rest
  rw [← primary_length]
  refine ⟨decodeBytes b0 b1 b2, ?_, ?_, ?_⟩
  · have hle := (primary b0).length_le
    rw [hcode, List.length_take, List.length_cons, List.length_cons, List.length_cons]
    omega
  · have hdecode := decodeOfEncode _ hwf ((b0 :: b1 :: b2 :: rest).drop (primary b0).length)
    rwa [hcode, List.take_append_drop] at hdecode
  · rw [← hcode, decode_encode _ hwf]

end Sys2Proof
end

section
/-! PROOFS. The 8-bit loads (40_load8.md). A form of a rule is its bytes, its cost and the shared operation that is its meaning; what it
leaves follows from what the operation does (Laws/Specs.lean). -/

namespace Sys2Proof.Machine

open Sys2Proof.Claims

/-! ### Forms -/

/-- `i` is encoded as `code`, costs `cyc` cycles whatever the state, and means `f`. -/
structure Form (i : Instr) (code : List Byte) (cyc : Nat) (f : State → State) : Prop where
  wellFormed : WellFormed i = true
  encode_eq : encode i = code
  cost_eq : cost i = .fixed cyc
  exec_eq : ∀ s, exec i s = .next (f s)

/-- A form runs from its bytes, at its cost, to the state its meaning answers: `decodeOfEncode` reads the bytes. -/
theorem Form.runs {i : Instr} {code : List Byte} {cyc : Nat} {f : State → State} (h : Form i code cyc f) {s : State} {P : State → Prop}
    (hP : P (f s)) : Runs i code cyc s P := by
  refine ⟨f s, ⟨fun rest => ?_, ?_, h.exec_eq s⟩, hP⟩
  · rw [← h.encode_eq]
    exact decodeOfEncode i h.wellFormed rest
  · rw [h.cost_eq, Cost.cycles]

/-! ### Frames -/

/-- Moving PC past an instruction leaves the data registers alone. -/
theorem State.r8_advance_of_mem_dataRegs {x : Reg8} (hx : x ∈ dataRegs) (s : State) (n : Nat) : (s.advance n).r8 x = s.r8 x := by
  cases x
  case PCh | PCl => exact absurd hx (by decide)
  all_goals rfl

theorem regsKept_trans {xs ys : List Reg8} {s t u : State} (h : RegsKept xs s t) (k : RegsKept ys t u) : RegsKept (xs ++ ys) s u := by
  intro x hx hchanged
  rw [List.mem_append, not_or] at hchanged
  exact (k x hx hchanged.2).trans (h x hx hchanged.1)

theorem regsKept_stepHL (d : Word) (t : State) : RegsKept [.H, .L] t (stepHL d t) := by
  intro x hx hchanged
  cases x
  case H | L => exact absurd (by decide) hchanged
  all_goals rfl

/-! ### Loads -/

theorem ldRegReg_form : ∀ e ∈ ldRegReg, Form e.1 [e.2.1] 4 (loadReg e.2.2.1 1 (.reg e.2.2.2)) := by
  iterate 49 refine List.forall_mem_cons.2 ⟨⟨rfl, rfl, rfl, fun _ => rfl⟩, ?_⟩
  exact List.forall_mem_nil _

theorem ldRegReg_regs : ∀ e ∈ ldRegReg, e.2.2.1 ∈ dataRegs ∧ e.2.2.2 ∈ dataRegs := by decide

/-- Settles O21: each form is `loadReg` from a register, which PC's move past the instruction leaves alone. -/
theorem loadRegFromReg : Obligations.LoadRegFromReg := by
  intro i op d r hmem s
  obtain ⟨hd, hr⟩ := ldRegReg_regs _ hmem
  refine (ldRegReg_form _ hmem).runs ?_
  rw [← State.r8_advance_of_mem_dataRegs hr s 1]
  exact loadsReg_loadReg hd 1 (.reg r) s

theorem ldRegImm_form : ∀ e ∈ ldRegImm, e.2.2 ∈ dataRegs ∧ ∀ n, Form (e.1 n) [e.2.1, n] 8 (loadReg e.2.2 2 (.imm n)) := by
  iterate 7 refine List.forall_mem_cons.2 ⟨⟨by decide, fun _ => ⟨rfl, rfl, rfl, fun _ => rfl⟩⟩, ?_⟩
  exact List.forall_mem_nil _

theorem ldRegHL_form : ∀ e ∈ ldRegHL, e.2.2 ∈ dataRegs ∧ Form e.1 [e.2.1] 8 (fun s => loadReg e.2.2 1 (.mem s.hl) s) := by
  iterate 7 refine List.forall_mem_cons.2 ⟨⟨by decide, ⟨rfl, rfl, rfl, fun _ => rfl⟩⟩, ?_⟩
  exact List.forall_mem_nil _

/-- A form whose meaning is a load of A from memory at `addr`. -/
theorem Form.runs_loadsA {i : Instr} {code : List Byte} {cyc n : Nat} {addr : State → Word}
    (h : Form i code cyc (fun s => loadReg .A n (.mem (addr s)) s)) (s : State) :
    Runs i code cyc s (LoadsReg .A (s.byte (addr s)) (BitVec.ofNat 16 n) s) :=
  h.runs (loadsReg_loadReg (by decide) n (.mem (addr s)) s)

/-- Settles O22: each form is `loadReg` from its operand. -/
theorem loadRegFromImmediateOrMemory : Obligations.LoadRegFromImmediateOrMemory := by
  refine ⟨fun i op d hmem n s => ?_, fun i op d hmem s => ?_, ?_, ?_, fun nn => ?_, fun n => ?_, ?_⟩
  · obtain ⟨hd, hform⟩ := ldRegImm_form _ hmem
    exact (hform n).runs (loadsReg_loadReg hd 2 (.imm n) s)
  · obtain ⟨hd, hform⟩ := ldRegHL_form _ hmem
    exact hform.runs (loadsReg_loadReg hd 1 (.mem s.hl) s)
  · exact Form.runs_loadsA (addr := State.bc) ⟨rfl, rfl, rfl, exec_ld_A_atBC⟩
  · exact Form.runs_loadsA (addr := State.de) ⟨rfl, rfl, rfl, exec_ld_A_atDE⟩
  · exact Form.runs_loadsA (addr := fun _ => nn) ⟨rfl, rfl, rfl, exec_ld_A_atnn nn⟩
  · exact Form.runs_loadsA (addr := fun _ => highPage n) ⟨rfl, rfl, rfl, exec_ldh_A_atn n⟩
  · exact Form.runs_loadsA (addr := fun s => highPage (s.r8 .C)) ⟨rfl, rfl, rfl, exec_ld_A_atC⟩

/-! ### Stores -/

/-- A form whose meaning is a store of `byte` at `addr`. -/
theorem Form.runs_storesByte {i : Instr} {code : List Byte} {cyc n : Nat} {addr : State → Word} {byte : State → Byte}
    (h : Form i code cyc (fun s => storeByte n (addr s) (byte s) s)) (s : State) :
    Runs i code cyc s (StoresByte (addr s) (byte s) (BitVec.ofNat 16 n) s) :=
  h.runs (storesByte_storeByte n (addr s) (byte s) s)

theorem ldHLReg_form : ∀ e ∈ ldHLReg, Form e.1 [e.2.1] 8 (fun s => storeByte 1 s.hl (s.r8 e.2.2) s) := by
  iterate 7 refine List.forall_mem_cons.2 ⟨⟨rfl, rfl, rfl, fun _ => rfl⟩, ?_⟩
  exact List.forall_mem_nil _

/-- Settles O23: each form is `storeByte` at its address. -/
theorem storeByteForms : Obligations.StoreByteForms := by
  refine ⟨fun i op r hmem => (ldHLReg_form _ hmem).runs_storesByte, fun n => ?_, ?_, ?_, fun nn => ?_, fun n => ?_, ?_⟩
  · exact Form.runs_storesByte (addr := State.hl) (byte := fun _ => n) ⟨rfl, rfl, rfl, exec_ld_atHL_n n⟩
  · exact Form.runs_storesByte (addr := State.bc) (byte := (·.r8 .A)) ⟨rfl, rfl, rfl, exec_ld_atBC_A⟩
  · exact Form.runs_storesByte (addr := State.de) (byte := (·.r8 .A)) ⟨rfl, rfl, rfl, exec_ld_atDE_A⟩
  · exact Form.runs_storesByte (addr := fun _ => nn) (byte := (·.r8 .A)) ⟨rfl, rfl, rfl, exec_ld_atnn_A nn⟩
  · exact Form.runs_storesByte (addr := fun _ => highPage n) (byte := (·.r8 .A)) ⟨rfl, rfl, rfl, exec_ldh_atn_A n⟩
  · exact Form.runs_storesByte (addr := fun s => highPage (s.r8 .C)) (byte := (·.r8 .A)) ⟨rfl, rfl, rfl, exec_ld_atC_A⟩

/-! ### LDI and LDD -/

/-- A form that stores A at HL and then moves HL by `d`. -/
theorem Form.runs_storeThenStepHL {i : Instr} {code : List Byte} {cyc : Nat} {d hl' : Word} {s : State}
    (h : Form i code cyc (fun s => stepHL d (storeByte 1 s.hl (s.r8 .A) s))) (hmove : s.hl + d = hl') :
    Runs i code cyc s (fun t => Stored s.hl (s.r8 .A) s t ∧ t.hl = hl' ∧ RegsKept [.H, .L] s t ∧ FlagsKept s t ∧ Apart s t ∧
      Falls 1 s t) := by
  obtain ⟨hstored, hregs, hflags, hapart, hfalls⟩ := storesByte_storeByte 1 s.hl (s.r8 .A) s
  refine h.runs ⟨stored_congr hstored rfl rfl rfl rfl, ?_, regsKept_trans hregs (regsKept_stepHL d _), hflags,
    apart_trans hapart (apart_stepHL d _), hfalls⟩
  rw [stepHL_hl, ← hmove]
  simp [storeByte]

/-- A form that loads A from HL and then moves HL by `d`. -/
theorem Form.runs_loadThenStepHL {i : Instr} {code : List Byte} {cyc : Nat} {d hl' : Word} {s : State}
    (h : Form i code cyc (fun s => stepHL d (loadReg .A 1 (.mem s.hl) s))) (hmove : s.hl + d = hl') :
    Runs i code cyc s (fun t => t.r8 .A = s.byte s.hl ∧ t.hl = hl' ∧ RegsKept [.A, .H, .L] s t ∧ FlagsKept s t ∧ MemKept s t ∧
      Apart s t ∧ Falls 1 s t) := by
  obtain ⟨hval, hregs, hflags, hmem, hapart, hfalls⟩ := loadsReg_loadReg (d := .A) (by decide) 1 (.mem s.hl) s
  refine h.runs ⟨hval, ?_, regsKept_trans hregs (regsKept_stepHL d _), hflags, hmem, apart_trans hapart (apart_stepHL d _), hfalls⟩
  rw [stepHL_hl, ← hmove]
  simp [loadReg]

/-- Settles O24: each form is a store or a load at HL, and then `stepHL` by 1 or -1. -/
theorem loadAndStepHL : Obligations.LoadAndStepHL := by
  intro s
  have hdec : s.hl + -1 = s.hl - 1 := (BitVec.sub_eq_add_neg s.hl 1).symm
  exact ⟨Form.runs_storeThenStepHL ⟨rfl, rfl, rfl, exec_ldi_atHL_A⟩ rfl, Form.runs_storeThenStepHL ⟨rfl, rfl, rfl, exec_ldd_atHL_A⟩ hdec,
    Form.runs_loadThenStepHL ⟨rfl, rfl, rfl, exec_ldi_A_atHL⟩ rfl, Form.runs_loadThenStepHL ⟨rfl, rfl, rfl, exec_ldd_A_atHL⟩ hdec⟩

end Sys2Proof.Machine
end

section
/-! PROOFS. The 16-bit loads and the stack (41_load16_stack.md): what PUSH and POP leave in the registers, and with it each form of R150 to
R155 from its shared operation. -/

namespace Sys2Proof.Machine

open Sys2Proof.Claims

/-! ### Frames -/

/-- A frame may name more registers as changed, and F with them, which is no data register. -/
theorem regsKept_mono {xs ys : List Reg8} {s t : State} (h : RegsKept xs s t) (hsub : ∀ x ∈ dataRegs, x ∈ xs → x ∈ ys) : RegsKept ys s t :=
  fun x hx hkept => h x hx fun hchanged => hkept (hsub x hx hchanged)

/-- A byte half is one of its pair's halves (R21). -/
theorem Reg8.mem_halves_pair (x : Reg8) : x ∈ halves x.pair := by cases x <;> decide

/-- A pair write changes the pair's halves alone. -/
theorem regsKept_setR16 (p : Reg16) (v : Word) (t : State) : RegsKept (halves p) t (t.setR16 p v) := by
  intro x _ hchanged
  refine t.r8_setR16_ne v ?_
  rintro rfl
  exact hchanged x.mem_halves_pair

/-- The four flags, once F has been written with the masked byte (R23). -/
theorem flagsAre_of_F_masked {t : State} {v : Byte} (hF : t.r8 .F = v &&& 0xF0) :
    FlagsAre t (v.getLsbD 7) (v.getLsbD 6) (v.getLsbD 5) (v.getLsbD 4) := by
  have hflag : ∀ f : Flag, t.flag f = true ↔ v.getLsbD f.bit = true := fun f => by
    rw [← t.flag_setR8_F v f, State.flag, State.flag, State.r8_setR8_self, if_pos rfl, hF]
  have hlow : (v &&& 0xF0).extractLsb' 0 4 = 0 := by
    rw [BitVec.extractLsb'_and]
    exact BitVec.and_zero
  exact ⟨hflag .Z, hflag .N, hflag .H, hflag .C, hF ▸ hlow⟩

/-! ### Loads of a pair -/

theorem ldPairImm_form : ∀ e ∈ ldPairImm, e.2.2 ∈ [Reg16.BC, .DE, .HL, .SP] ∧
    ∀ nn, Form (e.1 nn) [e.2.1, lo8 nn, hi8 nn] 12 (loadPair e.2.2 nn) := by
  iterate 4 refine List.forall_mem_cons.2 ⟨⟨by decide, fun _ => ⟨rfl, rfl, rfl, fun _ => rfl⟩⟩, ?_⟩
  exact List.forall_mem_nil _

/-- Settles O25: each form is a write of its pair after PC's move (`loadsPair_setR16`). -/
theorem loadPairForms : Obligations.LoadPairForms := by
  refine ⟨fun i op p hmem nn s => ?_, fun s => ?_⟩
  · obtain ⟨hp, hform⟩ := ldPairImm_form _ hmem
    exact (hform nn).runs (loadsPair_setR16 hp 3 nn s)
  · have hform : Form .ld_SP_HL [0xF9] 8 copyHLtoSP := ⟨rfl, rfl, rfl, exec_ld_SP_HL⟩
    exact hform.runs (loadsPair_setR16 (by decide) 1 s.hl s)

/-! ### Stores of a word -/

theorem apart_writeWord (s : State) (a v : Word) : Apart s (s.writeWord a v) := apart_trans (apart_write _ _ _) (apart_write _ _ _)

/-- `storeSP` stores SP and changes nothing else but PC. -/
theorem storeSP_spec (nn : Word) (s : State) :
    StoredWord nn s.sp s (storeSP nn s) ∧ RegsKept [] s (storeSP nn s) ∧ FlagsKept s (storeSP nn s) ∧ Apart s (storeSP nn s) ∧
      Falls 3 s (storeSP nn s) := by
  refine ⟨?_, ?_, ?_, ?_, ?_⟩
  · exact storedWord_congr (storedWord_writeWord (s.advance 3) nn s.sp) rfl rfl rfl rfl
  · simp [RegsKept, dataRegs, storeSP, State.writeWord]
  · simp [FlagsKept, storeSP, State.writeWord]
  · exact apart_trans (apart_advance s 3) (apart_writeWord _ _ _)
  · exact (storeSP_control nn s).1

theorem pushPairs_form : ∀ e ∈ pushPairs, Form e.1 [e.2.1] 16 (pushPair e.2.2) := by
  iterate 4 refine List.forall_mem_cons.2 ⟨⟨rfl, rfl, rfl, fun _ => rfl⟩, ?_⟩
  exact List.forall_mem_nil _

/-- Settles O26: `LD (nn),SP` by `storeSP_spec`, `PUSH` by `pushPair_spec`. -/
theorem storeWordForms : Obligations.StoreWordForms := by
  refine ⟨fun nn s => ?_, fun i op p hmem s => (pushPairs_form _ hmem).runs (pushPair_spec p s)⟩
  have hform : Form (.ld_atnn_SP nn) [0x08, lo8 nn, hi8 nn] 20 (storeSP nn) := ⟨rfl, rfl, rfl, exec_ld_atnn_SP nn⟩
  exact hform.runs (storeSP_spec nn s)

/-! ### POP -/

/-- `popPair` moves SP up by 2 and changes nothing else but PC and the pair's halves; F is among these for AF alone. -/
theorem popPair_frame {p : Reg16} (hsp : p ≠ .SP) (hpc : p ≠ .PC) (s : State) :
    (popPair p s).sp = s.sp + 2 ∧ RegsKept (halves p ++ [.SPh, .SPl]) s (popPair p s) ∧ MemKept s (popPair p s) ∧ Apart s (popPair p s) ∧
      Falls 1 s (popPair p s) := by
  have hmoved : RegsKept [.SPh, .SPl] s { s.advance 1 with sp := s.sp + 2 } := by simp [RegsKept, dataRegs]
  have hapart : Apart s { s.advance 1 with sp := s.sp + 2 } := ⟨rfl, rfl, rfl, rfl, rfl, rfl, rfl, rfl, rfl, rfl⟩
  refine ⟨?_, ?_, ?_, ?_, (popPair_control hpc s).1⟩ <;> rw [popPair_eq]
  · exact setR16_sp _ hsp _
  · exact regsKept_mono (regsKept_trans hmoved (regsKept_setR16 p _ _)) fun x _ hx => List.perm_append_comm.subset hx
  · exact ⟨State.byte_setR16 _ _ _, State.setR16_diags _ _ _⟩
  · exact apart_trans hapart (apart_setR16 _ _ _)

/-- `POP AF` takes A and F from the word, F masked (R155). -/
theorem popPair_AF (s : State) : (popPair .AF s).r8 .A = s.byte (s.sp + 1) ∧ (popPair .AF s).r8 .F = s.byte s.sp &&& 0xF0 := by
  rw [State.r8_A, State.r8_F, popPair_eq, State.setR16_AF_af, mkWord_and_mask, hiByte_mkWord, loByte_mkWord]
  exact ⟨rfl, rfl⟩

theorem popPairs_form : ∀ e ∈ popPairs, (e.2.2 ≠ .AF ∧ e.2.2 ≠ .SP ∧ e.2.2 ≠ .PC) ∧ Form e.1 [e.2.1] 12 (popPair e.2.2) := by
  iterate 3 refine List.forall_mem_cons.2 ⟨⟨by decide, ⟨rfl, rfl, rfl, fun _ => rfl⟩⟩, ?_⟩
  exact List.forall_mem_nil _

/-- Settles O27: SP and the frame by `popPair_frame`; a pair other than AF reads back whole, AF by `popPair_AF`. -/
theorem popForms : Obligations.PopForms := by
  refine ⟨fun i op p hmem s => ?_, fun s => ?_⟩
  · obtain ⟨⟨haf, hsp, hpc⟩, hform⟩ := popPairs_form _ hmem
    obtain ⟨hmoved, hregs, hrest⟩ := popPair_frame hsp hpc s
    refine hform.runs ⟨?_, hmoved, hregs, ?_, hrest⟩ <;> rw [popPair_eq]
    · exact State.r16_setR16_self _ haf _
    · exact State.r8_setR16_ne _ _ haf.symm
  · obtain ⟨hA, hF⟩ := popPair_AF s
    obtain ⟨hmoved, hregs, hrest⟩ := popPair_frame (p := .AF) (by decide) (by decide) s
    have hform : Form .pop_AF [0xF1] 12 (popPair .AF) := ⟨rfl, rfl, rfl, exec_pop_AF⟩
    exact hform.runs ⟨hA, hF, flagsAre_of_F_masked hF, hmoved, regsKept_mono hregs (by decide), hrest⟩

end Sys2Proof.Machine
end

section
/-! PROOFS. 8-bit arithmetic and logic (42_alu8.md). The eight operations against A have the same three forms, from a register, from (HL) and
immediate, so their runs are proved once for all of them; INC and DEC share `modify`; DAA's decimal meaning is arithmetic on digits. -/

namespace Sys2Proof.Machine

open Sys2Proof.Claims

/-! ### The operations against A -/

/-- The forms of an operation with a register, by the tables of the statements. -/
def AluOp.regForms : AluOp → List (Instr × Byte × Reg8)
  | .add => addReg
  | .adc => adcReg
  | .sub => subReg
  | .sbc => sbcReg
  | .and => andReg
  | .xor => xorReg
  | .or => orReg
  | .cp => cpReg

/-- The form of an operation with (HL), and its opcode. -/
def AluOp.atHLForm : AluOp → Instr × Byte
  | .add => (.add_A_atHL, 0x86)
  | .adc => (.adc_A_atHL, 0x8E)
  | .sub => (.sub_atHL, 0x96)
  | .sbc => (.sbc_A_atHL, 0x9E)
  | .and => (.and_atHL, 0xA6)
  | .xor => (.xor_atHL, 0xAE)
  | .or => (.or_atHL, 0xB6)
  | .cp => (.cp_atHL, 0xBE)

/-- The form of an operation with an immediate, and its opcode. -/
def AluOp.immForm : AluOp → (Byte → Instr) × Byte
  | .add => (.add_A_n, 0xC6)
  | .adc => (.adc_A_n, 0xCE)
  | .sub => (.sub_n, 0xD6)
  | .sbc => (.sbc_A_n, 0xDE)
  | .and => (.and_n, 0xE6)
  | .xor => (.xor_n, 0xEE)
  | .or => (.or_n, 0xF6)
  | .cp => (.cp_n, 0xFE)

theorem AluOp.regForms_form (op : AluOp) :
    ∀ e ∈ op.regForms, e.2.2 ∈ dataRegs ∧ Form e.1 [e.2.1] 4 (aluA op 1 (.reg e.2.2)) := by
  cases op
  all_goals
    iterate 7 refine List.forall_mem_cons.2 ⟨⟨by decide, ⟨rfl, rfl, rfl, fun _ => rfl⟩⟩, ?_⟩
    exact List.forall_mem_nil _

theorem AluOp.atHLForm_form (op : AluOp) : Form op.atHLForm.1 [op.atHLForm.2] 8 (fun s => aluA op 1 (.mem s.hl) s) := by
  cases op <;> exact ⟨rfl, rfl, rfl, fun _ => rfl⟩

theorem AluOp.immForm_form (op : AluOp) (n : Byte) : Form (op.immForm.1 n) [op.immForm.2, n] 8 (aluA op 2 (.imm n)) := by
  cases op <;> exact ⟨rfl, rfl, rfl, fun _ => rfl⟩

/-- Every form of `op` does what `P` says of the operand's byte, the length, and the states before and after. -/
structure AluOp.Does (op : AluOp) (P : Byte → Word → State → State → Prop) : Prop where
  reg : ∀ i b r, (i, b, r) ∈ op.regForms → ∀ s, Runs i [b] 4 s (P (s.r8 r) 1 s)
  atHL : ∀ s, Runs op.atHLForm.1 [op.atHLForm.2] 8 s (P (s.byte s.hl) 1 s)
  imm : ∀ n s, Runs (op.immForm.1 n) [op.immForm.2, n] 8 s (P n 2 s)

/-- What `aluA` does for every operand, every form of the operation does. -/
theorem AluOp.does_of_aluA {op : AluOp} {P : Byte → Word → State → State → Prop}
    (h : ∀ n o s, P ((s.advance n).operandByte o) (BitVec.ofNat 16 n) s (aluA op n o s)) : op.Does P where
  reg i b r hmem s := by
    obtain ⟨hr, hform⟩ := op.regForms_form _ hmem
    refine hform.runs ?_
    rw [← State.r8_advance_of_mem_dataRegs hr s 1]
    exact h 1 (.reg r) s
  atHL s := op.atHLForm_form.runs (h 1 (.mem s.hl) s)
  imm n s := (op.immForm_form n).runs (h 2 (.imm n) s)

theorem does_add : AluOp.add.Does (AddsToA · false) := AluOp.does_of_aluA addsToA_add

theorem does_adc : AluOp.adc.Does (fun v n s => AddsToA v (s.flag .C) n s) := AluOp.does_of_aluA addsToA_adc

theorem does_sub : AluOp.sub.Does (SubsFromA · false) := AluOp.does_of_aluA subsFromA_sub

theorem does_sbc : AluOp.sbc.Does (fun v n s => SubsFromA v (s.flag .C) n s) := AluOp.does_of_aluA subsFromA_sbc

theorem does_and : AluOp.and.Does (fun v n s => LogicToA (s.r8 .A &&& v) True n s) := AluOp.does_of_aluA logicToA_and

theorem does_xor : AluOp.xor.Does (fun v n s => LogicToA (s.r8 .A ^^^ v) False n s) := AluOp.does_of_aluA logicToA_xor

theorem does_or : AluOp.or.Does (fun v n s => LogicToA (s.r8 .A ||| v) False n s) := AluOp.does_of_aluA logicToA_or

theorem does_cp : AluOp.cp.Does ComparesA := AluOp.does_of_aluA comparesA_cp

/-- Settles O28: the three forms of ADD, then those of ADC. -/
theorem addForms : Obligations.AddForms :=
  ⟨does_add.reg, does_add.atHL, does_add.imm, does_adc.reg, does_adc.atHL, does_adc.imm⟩

/-- Settles O29: the three forms of SUB, then those of SBC. -/
theorem subtractForms : Obligations.SubtractForms :=
  ⟨does_sub.reg, does_sub.atHL, does_sub.imm, does_sbc.reg, does_sbc.atHL, does_sbc.imm⟩

/-- Settles O30: the three forms of CP. -/
theorem compareForms : Obligations.CompareForms := ⟨does_cp.reg, does_cp.atHL, does_cp.imm⟩

/-- Settles O31: the three forms each of AND, XOR and OR. -/
theorem logicForms : Obligations.LogicForms :=
  ⟨does_and.reg, does_and.atHL, does_and.imm, does_xor.reg, does_xor.atHL, does_xor.imm, does_or.reg, does_or.atHL, does_or.imm⟩

/-! ### INC and DEC -/

/-- The result of an operation as a number, and its flags as conditions. -/
def Flagged.Says (r : Flagged) (v : Nat) (z n h c : Prop) : Prop :=
  r.res.toNat = v ∧ (r.z = true ↔ z) ∧ (r.n = true ↔ n) ∧ (r.h = true ↔ h) ∧ (r.c = true ↔ c)

/-- A form that modifies a register leaves what its operation says. -/
theorem Form.runs_modify_reg {i : Instr} {code : List Byte} {cyc : Nat} {r : Reg8} {f : Byte → Bool → Flagged} {s : State} {v : Nat}
    {z n h c : Prop} (hform : Form i code cyc (modify 1 (.reg r) f)) (hr : r ∈ dataRegs)
    (hsays : (f (s.r8 r) (s.flag .C)).Says v z n h c) : Runs i code cyc s (RegAndFlags r v z n h c 1 s) := by
  obtain ⟨hres, hz, hn, hh, hc⟩ := hsays
  obtain ⟨hval, hflags, hframe⟩ := modify_reg hr 1 f s
  exact hform.runs ⟨hval.trans hres, flagsAre_imp hflags hz hn hh hc, hframe⟩

/-- A form that modifies the byte at HL leaves what its operation says of the byte read. -/
theorem Form.runs_modify_atHL {i : Instr} {code : List Byte} {cyc : Nat} {f : Byte → Bool → Flagged} {s : State} {v : Nat}
    {z n h c : Prop} (hform : Form i code cyc (fun s => modify 1 (.mem s.hl) f s))
    (hsays : (f (s.byte s.hl) (s.flag .C)).Says v z n h c) : Runs i code cyc s (CellAndFlags s.hl v z n h c 1 s) := by
  obtain ⟨hres, hz, hn, hh, hc⟩ := hsays
  obtain ⟨hstored, hflags, hframe⟩ := modify_mem 1 s.hl f s
  exact hform.runs ⟨hres ▸ hstored, flagsAre_imp hflags hz hn hh hc, hframe⟩

theorem incReg_form : ∀ e ∈ incReg, e.2.2 ∈ dataRegs ∧ Form e.1 [e.2.1] 4 (modify 1 (.reg e.2.2) inc8) := by
  iterate 7 refine List.forall_mem_cons.2 ⟨⟨by decide, ⟨rfl, rfl, rfl, fun _ => rfl⟩⟩, ?_⟩
  exact List.forall_mem_nil _

theorem decReg_form : ∀ e ∈ decReg, e.2.2 ∈ dataRegs ∧ Form e.1 [e.2.1] 4 (modify 1 (.reg e.2.2) dec8) := by
  iterate 7 refine List.forall_mem_cons.2 ⟨⟨by decide, ⟨rfl, rfl, rfl, fun _ => rfl⟩⟩, ?_⟩
  exact List.forall_mem_nil _

/-- Settles O32: each form is `modify` by `inc8` or `dec8`, of a register or of the byte at HL. -/
theorem incrementAndDecrementForms : Obligations.IncrementAndDecrementForms := by
  refine ⟨fun i op r hmem s => ?_, fun s => ?_, fun i op r hmem s => ?_, fun s => ?_⟩
  · obtain ⟨hr, hform⟩ := incReg_form _ hmem
    exact hform.runs_modify_reg hr (inc8_spec _ _)
  · exact Form.runs_modify_atHL ⟨rfl, rfl, rfl, exec_inc_atHL⟩ (inc8_spec _ _)
  · obtain ⟨hr, hform⟩ := decReg_form _ hmem
    exact hform.runs_modify_reg hr (dec8_spec _ _)
  · exact Form.runs_modify_atHL ⟨rfl, rfl, rfl, exec_dec_atHL⟩ (dec8_spec _ _)

/-! ### DAA -/

theorem daa_form : Form .daa [0x27] 4 decimalAdjust := ⟨rfl, rfl, rfl, exec_daa⟩

/-- DAA of a state whose adjusted A and flags are known; Z speaks of the A it leaves. -/
theorem decimalAdjust_regAndFlags {s : State} {v : Nat} {n h c : Prop}
    (hsays : (daa8 (s.r8 .A) (s.flag .N) (s.flag .H) (s.flag .C)).Says v
      ((daa8 (s.r8 .A) (s.flag .N) (s.flag .H) (s.flag .C)).res = 0) n h c) :
    RegAndFlags .A v ((decimalAdjust s).r8 .A = 0) n h c 1 s (decimalAdjust s) := by
  obtain ⟨hres, hz, hn, hh, hc⟩ := hsays
  obtain ⟨hA, hflags, hframe⟩ := decimalAdjust_spec s
  rw [← hA] at hres hz
  exact ⟨hres, flagsAre_imp hflags hz hn hh hc, hframe⟩

/-- Settles O33: `decimalAdjust` with the flag N of an addition (`daa8_after_add`), and with that of a subtraction (`daa8_after_sub`). -/
theorem daaDecimalAdjust : Obligations.DecimalAdjust := by
  refine fun s => ⟨fun hN => daa_form.runs (decimalAdjust_regAndFlags ?_), fun hN => daa_form.runs (decimalAdjust_regAndFlags ?_)⟩
  · rw [hN]
    exact daa8_after_add _ _ _
  · rw [hN]
    exact daa8_after_sub _ _ _

/-! ### Decimal arithmetic -/

/-- A two-digit number in packed decimal, a digit in each half byte. -/
def packed (x : Nat) : Nat := x / 10 * 16 + x % 10

theorem packed_eq (x : Nat) : packed x = x + 6 * (x / 10) := by
  unfold packed
  omega

theorem packed_mod_sixteen (x : Nat) : packed x % 16 = x % 10 := by
  unfold packed
  omega

theorem packed_le {x : Nat} (hx : x < 100) : packed x ≤ 0x99 := by
  rw [packed_eq]
  omega

theorem packed_lt_packed {x y : Nat} : packed x < packed y ↔ x < y := by
  rw [packed_eq, packed_eq]
  omega

theorem packed_mod_hundred (n : Nat) : packed (n % 100) = n % 100 / 10 * 16 + n % 10 := by
  rw [packed, Nat.mod_mod_of_dvd n (by decide)]

/-- Past 99 the packed number loses its third digit. -/
theorem packed_mod_hundred_eq {n : Nat} (hn : n < 200) : packed (n % 100) + (if n ≥ 100 then 160 else 0) = n + 6 * (n / 10) := by
  rw [packed_eq]
  split <;> omega

/-- The carry of the low digits in a sum. -/
theorem add_div_ten (x y : Nat) : (x + y) / 10 = x / 10 + y / 10 + if x % 10 + y % 10 ≥ 10 then 1 else 0 := by
  split <;> omega

/-- The borrow of the low digits in a difference. -/
theorem sub_div_ten {x y : Nat} (hy : y < 100) :
    (x + 100 - y) / 10 + y / 10 + (if x % 10 < y % 10 then 1 else 0) = x / 10 + 10 := by
  split <;> omega

/-- The addition's adjustment (R191) on a sum of packed numbers: 6 for each digit that has passed 9. -/
theorem daa_packed_sum {x y sum : Nat} {h c : Prop} [Decidable h] [Decidable c] (hx : x < 100) (hy : y < 100)
    (hsum : sum = (packed x + packed y) % 256) (hh : h ↔ packed x % 16 + packed y % 16 > 15) (hc : c ↔ packed x + packed y > 255) :
    (sum + (if h ∨ sum % 16 > 9 then 6 else 0) + (if c ∨ sum > 0x99 then 96 else 0)) % 256 = packed ((x + y) % 100) ∧
      (c ∨ sum > 0x99 ↔ x + y ≥ 100) := by
  have hpx := packed_eq x
  have hpy := packed_eq y
  have hdigits := add_div_ten x y
  have hresult := packed_mod_hundred_eq (n := x + y) (by omega)
  have hhalf : h ∨ sum % 16 > 9 ↔ x % 10 + y % 10 ≥ 10 := by
    have hlow : sum % 16 = (x % 10 + y % 10) % 16 := by
      rw [hsum, Nat.mod_mod_of_dvd _ (by decide), Nat.add_mod, packed_mod_sixteen, packed_mod_sixteen]
    rw [hh, hlow, packed_mod_sixteen, packed_mod_sixteen]
    omega
  have hcarry : c ∨ sum > 0x99 ↔ x + y ≥ 100 := by
    have htotal : c ∨ sum > 0x99 ↔ packed x + packed y > 0x99 := by
      have := packed_le hx
      have := packed_le hy
      rw [hc]
      omega
    rw [htotal]
    split at hdigits <;> omega
  refine ⟨?_, hcarry⟩
  simp only [hcarry, hhalf]
  split_ifs at hdigits hresult ⊢ <;> omega

/-- The subtraction's adjustment (R191) on a difference of packed numbers: 6 taken off for each digit that has borrowed. -/
theorem daa_packed_diff {x y diff : Nat} {h c : Prop} [Decidable h] [Decidable c] (hx : x < 100) (hy : y < 100)
    (hdiff : diff = (packed x + 256 - packed y) % 256) (hh : h ↔ packed x % 16 < packed y % 16) (hc : c ↔ packed x < packed y) :
    (diff + 256 - (if h then 6 else 0) - (if c then 96 else 0)) % 256 = packed ((x + 100 - y) % 100) ∧ (c ↔ x < y) := by
  have hpx := packed_eq x
  have hpy := packed_eq y
  have hdigits := sub_div_ten (x := x) hy
  have hresult := packed_mod_hundred_eq (n := x + 100 - y) (by omega)
  have hhalf : h ↔ x % 10 < y % 10 := by rw [hh, packed_mod_sixteen, packed_mod_sixteen]
  have hborrow : c ↔ x < y := hc.trans packed_lt_packed
  refine ⟨?_, hborrow⟩
  simp only [hborrow, hhalf]
  split_ifs at hdigits hresult ⊢ <;> omega

theorem toNat_ofNat_packed {y : Nat} (hy : y < 100) : (BitVec.ofNat 8 (packed y)).toNat = packed y :=
  (BitVec.toNat_ofNat _ _).trans (Nat.mod_eq_of_lt (by have := packed_le hy; omega))

/-- `ADD` leaves the packed numbers' sum and its carries (O28), and DAA after an addition (O33) adjusts it. -/
theorem add_then_daa {s : State} {x y : Nat} (hx : x < 100) (hy : y < 100) (hA : (s.r8 .A).toNat = packed x) :
    ∃ t u, exec (.add_A_n (BitVec.ofNat 8 (packed y))) s = .next t ∧ exec .daa t = .next u ∧
      (u.r8 .A).toNat = packed ((x + y) % 100) ∧ (u.flag .C = true ↔ x + y ≥ 100) := by
  obtain ⟨t, ⟨-, -, hadd⟩, hsum, ⟨-, hN, hH, hC, -⟩, -⟩ := does_add.imm (BitVec.ofNat 8 (packed y)) s
  obtain ⟨u, ⟨-, -, hdaa⟩, hres, ⟨-, -, -, hcarry, -⟩, -⟩ := (daaDecimalAdjust t).1 (by simpa using hN)
  rw [hA, toNat_ofNat_packed hy, Bool.toNat_false, Nat.add_zero] at hsum hH hC
  obtain ⟨hvalue, hdecimal⟩ := daa_packed_sum hx hy hsum hH hC
  exact ⟨t, u, hadd, hdaa, hres.trans hvalue, hcarry.trans hdecimal⟩

/-- `SUB` leaves the packed numbers' difference and its borrows (O29), and DAA after a subtraction (O33) adjusts it. -/
theorem sub_then_daa {s : State} {x y : Nat} (hx : x < 100) (hy : y < 100) (hA : (s.r8 .A).toNat = packed x) :
    ∃ t u, exec (.sub_n (BitVec.ofNat 8 (packed y))) s = .next t ∧ exec .daa t = .next u ∧
      (u.r8 .A).toNat = packed ((x + 100 - y) % 100) ∧ (u.flag .C = true ↔ x < y) := by
  obtain ⟨t, ⟨-, -, hsub⟩, hdiff, ⟨-, hN, hH, hC, -⟩, -⟩ := does_sub.imm (BitVec.ofNat 8 (packed y)) s
  obtain ⟨u, ⟨-, -, hdaa⟩, hres, ⟨-, -, -, hcarry, -⟩, -⟩ := (daaDecimalAdjust t).2 (hN.2 trivial)
  rw [hA, toNat_ofNat_packed hy, Bool.toNat_false] at hdiff hH hC
  have hdiff' : (t.r8 .A).toNat = (packed x + 256 - packed y) % 256 := by
    have := packed_le hy
    omega
  obtain ⟨hvalue, hdecimal⟩ := daa_packed_diff hx hy hdiff' (hH.trans (by omega)) (hC.trans (by omega))
  exact ⟨t, u, hsub, hdaa, hres.trans hvalue, hcarry.trans hdecimal⟩

/-- Settles O34: `add_then_daa` and `sub_then_daa`, the results written out in digits. -/
theorem decimalArithmeticIsRight : Obligations.DecimalArithmeticIsRight := by
  intro s x y hx hy hA
  rw [← packed_mod_hundred, ← packed_mod_hundred]
  exact ⟨add_then_daa hx hy hA, sub_then_daa hx hy hA⟩

/-! ### CPL, SCF and CCF -/

/-- Writing the flags after PC's move changes nothing else. -/
theorem setFlags_advance_frame (n : Nat) (z m h c : Bool) (s : State) :
    RegsKept [] s ((s.advance n).setFlags z m h c) ∧ MemKept s ((s.advance n).setFlags z m h c) ∧
      Apart s ((s.advance n).setFlags z m h c) ∧ Falls (BitVec.ofNat 16 n) s ((s.advance n).setFlags z m h c) :=
  ⟨by simp [RegsKept, dataRegs], ⟨fun a => by simp, by simp⟩, apart_trans (apart_advance s n) (apart_setFlags _ _ _ _ _), rfl⟩

theorem complementA_spec (s : State) :
    RegAndFlags .A (255 - (s.r8 .A).toNat) (s.flag .Z = true) True True (s.flag .C = true) 1 s (complementA s) := by
  have hnot : s.r8 .A ^^^ 0xFF = ~~~s.r8 .A := BitVec.xor_allOnes
  rw [complementA, hnot]
  refine ⟨?_, flagsAre_setFlags _ Iff.rfl (by simp) (by simp) Iff.rfl, by simp [RegsKept, dataRegs], ⟨fun a => by simp, by simp⟩,
    apart_trans (apart_trans (apart_advance s 1) (apart_setR8 _ _ _)) (apart_setFlags _ _ _ _ _), rfl⟩
  simp

/-- Settles O35: CPL by `complementA_spec`; SCF and CCF write the flags alone. -/
theorem accumulatorAndCarryAdjustments : Obligations.AccumulatorAndCarryAdjustments := by
  intro s
  have hcpl : Form .cpl [0x2F] 4 complementA := ⟨rfl, rfl, rfl, exec_cpl⟩
  have hscf : Form .scf [0x37] 4 setCarry := ⟨rfl, rfl, rfl, exec_scf⟩
  have hccf : Form .ccf [0x3F] 4 complementCarry := ⟨rfl, rfl, rfl, exec_ccf⟩
  refine ⟨hcpl.runs (complementA_spec s), hscf.runs ⟨?_, setFlags_advance_frame 1 _ _ _ _ s⟩,
    hccf.runs ⟨?_, setFlags_advance_frame 1 _ _ _ _ s⟩⟩
  · exact flagsAre_setFlags _ Iff.rfl (by simp) (by simp) (by simp)
  · exact flagsAre_setFlags _ Iff.rfl (by simp) (by simp) (by simp)

end Sys2Proof.Machine
end

section
/-! PROOFS. 16-bit arithmetic (43_alu16.md). A form is its shared operation: `addHL`, `addPair` by 1 or by -1, or `spOffsetTo` into SP or HL. -/

namespace Sys2Proof.Machine

open Sys2Proof.Claims

/-! ### ADD HL,rr -/

theorem addHLPair_form : ∀ e ∈ addHLPair, Form e.1 [e.2.1] 8 (addHL e.2.2) := by
  iterate 4 refine List.forall_mem_cons.2 ⟨⟨rfl, rfl, rfl, fun _ => rfl⟩, ?_⟩
  exact List.forall_mem_nil _

/-- Settles O36: each form is `addHL` of its pair (`addHL_spec`). -/
theorem addPairToHL : Obligations.AddPairToHL := fun _ _ p hmem s => (addHLPair_form _ hmem).runs (addHL_spec p s)

/-! ### INC rr and DEC rr -/

/-- `addPair` loads the pair with the sum, wrapping (R202, R203). -/
theorem loadsPair_addPair {p : Reg16} (hp : p ∈ [Reg16.BC, .DE, .HL, .SP]) (delta : Word) (s : State) :
    LoadsPair p (BitVec.ofNat 16 ((s.r16 p).toNat + delta.toNat)) 1 s (addPair p delta s) := by
  rw [← BitVec.add_def]
  exact loadsPair_setR16 hp 1 (s.r16 p + delta) s

theorem incPair_form : ∀ e ∈ incPair, e.2.2 ∈ [Reg16.BC, .DE, .HL, .SP] ∧ Form e.1 [e.2.1] 8 (addPair e.2.2 1) := by
  iterate 4 refine List.forall_mem_cons.2 ⟨⟨by decide, ⟨rfl, rfl, rfl, fun _ => rfl⟩⟩, ?_⟩
  exact List.forall_mem_nil _

theorem decPair_form : ∀ e ∈ decPair, e.2.2 ∈ [Reg16.BC, .DE, .HL, .SP] ∧ Form e.1 [e.2.1] 8 (addPair e.2.2 (-1)) := by
  iterate 4 refine List.forall_mem_cons.2 ⟨⟨by decide, ⟨rfl, rfl, rfl, fun _ => rfl⟩⟩, ?_⟩
  exact List.forall_mem_nil _

/-- Settles O37: each form is `addPair` by 1 or by -1, which is 65535 as a word. -/
theorem pairIncrementAndDecrement : Obligations.PairIncrementAndDecrement := by
  refine ⟨fun i op p hmem s => ?_, fun i op p hmem s => ?_⟩
  · obtain ⟨hp, hform⟩ := incPair_form _ hmem
    exact hform.runs (loadsPair_addPair hp 1 s)
  · obtain ⟨hp, hform⟩ := decPair_form _ hmem
    exact hform.runs (loadsPair_addPair hp (-1) s)

/-! ### ADD SP,e and LD HL,SP+e -/

/-- A form that is `spOffsetTo` leaves in its pair the signed sum, as an integer. -/
theorem Form.runs_spOffsetTo {i : Instr} {code : List Byte} {cyc : Nat} {p : Reg16} {e : Byte} (h : Form i code cyc (spOffsetTo p e))
    (hp : p = .SP ∨ p = .HL) (s : State) :
    Runs i code cyc s (fun t =>
      ((t.r16 p).toNat : Int) = (s.sp.toNat + e.toInt) % 65536 ∧
        FlagsAre t False False (s.sp.toNat % 16 + e.toNat % 16 > 15) (s.sp.toNat % 256 + e.toNat > 255) ∧
        RegsKept (halves p) s t ∧ MemKept s t ∧ Apart s t ∧ Falls 2 s t) := by
  obtain ⟨hsum, hrest⟩ := spOffsetTo_spec hp e s
  exact h.runs ⟨hsum ▸ sp_add_sext_toNat s.sp e, hrest⟩

/-- Settles O38: both forms are `spOffsetTo`, the first into SP, the second into HL. -/
theorem stackPointerOffsetForms : Obligations.StackPointerOffsetForms := by
  intro e s
  have hadd : Form (.add_SP_e e) [0xE8, e] 16 (spOffsetTo .SP e) := ⟨rfl, rfl, rfl, exec_add_SP_e e⟩
  have hld : Form (.ld_HL_SPe e) [0xF8, e] 12 (spOffsetTo .HL e) := ⟨rfl, rfl, rfl, exec_ld_HL_SPe e⟩
  exact ⟨hadd.runs_spOffsetTo (.inl rfl) s, hld.runs_spOffsetTo (.inr rfl) s⟩

end Sys2Proof.Machine
end

section
/-! PROOFS. The control transfers (44_control.md R210 to R221). An unconditional form is its shared operation; a conditional one is that
operation when the flag its condition names has the value it asks for, and PC's move past the instruction when not, each at its own cost. -/

namespace Sys2Proof.Machine

open Sys2Proof.Claims

/-! ### Forms -/

/-- The state a form runs to. -/
theorem Form.runsTo {i : Instr} {code : List Byte} {cyc : Nat} {f : State → State} (h : Form i code cyc f) {s t : State} (ht : f s = t) :
    RunsTo i code cyc s t := by
  obtain ⟨_, hrun, rfl⟩ := h.runs (P := (· = t)) ht
  exact hrun

/-- The flag a condition names (R210). -/
def Cond.flag : Cond → Flag
  | .NZ | .Z => .Z
  | .NC | .C => .C

/-- The value a condition asks of its flag (R210). -/
def Cond.value : Cond → Bool
  | .NZ | .NC => false
  | .Z | .C => true

theorem State.cond_iff (s : State) (cc : Cond) : s.cond cc = true ↔ s.flag cc.flag = cc.value := by
  cases cc
  case Z | C => exact Iff.rfl
  case NZ | NC => exact Bool.not_eq_eq_eq_not

/-- `i` is encoded as `code` and means `act` at the cost `taken` when its flag `f` is `want`, else PC's move past its bytes at the cost
`notTaken`. -/
def CondForm (i : Instr) (code : List Byte) (f : Flag) (want : Bool) (taken notTaken : Nat) (act : State → State) : Prop :=
  ∃ cc : Cond, cost i = .branch cc taken notTaken ∧ cc.flag = f ∧ cc.value = want ∧ WellFormed i = true ∧ encode i = code ∧
    ∀ s, exec i s = .next (if s.cond cc then act s else s.advance code.length)

/-- A conditional form runs to what its flag decides. -/
theorem CondForm.runsTo {i : Instr} {code : List Byte} {f : Flag} {want : Bool} {taken notTaken : Nat} {act : State → State}
    (h : CondForm i code f want taken notTaken act) (s : State) :
    (s.flag f = want → RunsTo i code taken s (act s)) ∧ (s.flag f ≠ want → RunsTo i code notTaken s (s.advance code.length)) := by
  obtain ⟨cc, hcost, rfl, rfl, hwf, rfl, hexec⟩ := h
  refine ⟨fun hflag => ⟨decodeOfEncode i hwf, ?_, ?_⟩, fun hflag => ⟨decodeOfEncode i hwf, ?_, ?_⟩⟩
  all_goals simp [hcost, hexec, Cost.cycles, s.cond_iff, hflag]

/-! ### JP and JR -/

/-- The displacement is added as a signed number (R214). -/
theorem pc_add_sext16 (pc : Word) (e : Byte) : pc + 2 + sext16 e = BitVec.ofInt 16 (pc.toNat + 2 + e.toInt) := by
  simp [sext16, BitVec.signExtend, BitVec.ofInt_add]

theorem jumpRel_eq (e : Byte) (s : State) : jumpRel e s = { s with pc := BitVec.ofInt 16 (s.pc.toNat + 2 + e.toInt) } := by
  rw [← pc_add_sext16]
  rfl

theorem jpIf_form : ∀ e ∈ jpIfForms, ∀ nn, CondForm (e.1 nn) [e.2.1, lo8 nn, hi8 nn] e.2.2.1 e.2.2.2 16 12 (jump nn) := by
  iterate 4 refine List.forall_mem_cons.2 ⟨fun _ => ⟨_, rfl, rfl, rfl, rfl, rfl, fun _ => rfl⟩, ?_⟩
  exact List.forall_mem_nil _

theorem jrIf_form : ∀ e ∈ jrIfForms, ∀ d, CondForm (e.1 d) [e.2.1, d] e.2.2.1 e.2.2.2 12 8 (jumpRel d) := by
  iterate 4 refine List.forall_mem_cons.2 ⟨fun _ => ⟨_, rfl, rfl, rfl, rfl, rfl, fun _ => rfl⟩, ?_⟩
  exact List.forall_mem_nil _

/-- Settles O39: the conditional forms by `CondForm.runsTo`, a relative target by `jumpRel_eq`. -/
theorem jumpForms : Obligations.JumpForms := by
  refine ⟨fun nn s => ?_, fun s => ?_, fun e s => ?_, fun i op f want hmem nn s => (jpIf_form _ hmem nn).runsTo s,
    fun i op f want hmem e s => ?_⟩
  · exact Form.runsTo ⟨rfl, rfl, rfl, exec_jp_nn nn⟩ rfl
  · exact Form.runsTo ⟨rfl, rfl, rfl, exec_jp_HL⟩ rfl
  · exact Form.runsTo ⟨rfl, rfl, rfl, exec_jr_e e⟩ (jumpRel_eq e s)
  · rw [← jumpRel_eq]
    exact (jrIf_form _ hmem e).runsTo s

/-! ### CALL and RST -/

theorem callIf_form : ∀ e ∈ callIfForms, ∀ nn, CondForm (e.1 nn) [e.2.1, lo8 nn, hi8 nn] e.2.2.1 e.2.2.2 24 12 (call 3 nn) := by
  iterate 4 refine List.forall_mem_cons.2 ⟨fun _ => ⟨_, rfl, rfl, rfl, rfl, rfl, fun _ => rfl⟩, ?_⟩
  exact List.forall_mem_nil _

theorem rst_form : ∀ e ∈ rstForms, Form e.1 [e.2.1] 16 (call 1 e.2.2) := by
  iterate 8 refine List.forall_mem_cons.2 ⟨⟨rfl, rfl, rfl, fun _ => rfl⟩, ?_⟩
  exact List.forall_mem_nil _

/-- Settles O40: each taken form is a `call` (`call_spec`). -/
theorem callForms : Obligations.CallForms := by
  refine ⟨fun nn s => ?_, fun i op f want hmem nn s => ?_, fun i op target hmem s => (rst_form _ hmem).runs (call_spec 1 target s)⟩
  · have hform : Form (.call_nn nn) [0xCD, lo8 nn, hi8 nn] 24 (call 3 nn) := ⟨rfl, rfl, rfl, exec_call_nn nn⟩
    exact hform.runs (call_spec 3 nn s)
  · obtain ⟨htaken, hnot⟩ := (callIf_form _ hmem nn).runsTo s
    exact ⟨fun hflag => ⟨_, htaken hflag, call_spec 3 nn s⟩, hnot⟩

/-! ### RET and RETI -/

theorem retIf_form : ∀ e ∈ retIfForms, CondForm e.1 [e.2.1] e.2.2.1 e.2.2.2 20 8 ret := by
  iterate 4 refine List.forall_mem_cons.2 ⟨⟨_, rfl, rfl, rfl, rfl, rfl, fun _ => rfl⟩, ?_⟩
  exact List.forall_mem_nil _

/-- Settles O41: each taken form is `ret` or `reti` (`ret_eq`, `reti_eq`). -/
theorem returnForms : Obligations.ReturnForms := by
  refine ⟨fun s => ?_, fun i op f want hmem s => ?_, fun s => ?_⟩
  · exact Form.runsTo ⟨rfl, rfl, rfl, exec_ret⟩ (ret_eq s)
  · obtain ⟨htaken, hnot⟩ := (retIf_form _ hmem).runsTo s
    rw [ret_eq] at htaken
    exact ⟨htaken, hnot⟩
  · exact Form.runsTo ⟨rfl, rfl, rfl, exec_reti⟩ (reti_eq s)

end Sys2Proof.Machine
end

section
/-! PROOFS. Rotates, shifts and bit instructions (45_rotate_shift_bit.md). A form is its shared operation: `rotateA`, `shiftOperand` (which is
`modify` by `shift8`), `testBit`, or `resetBit` and `setBit`, which store a function of the byte read back into the operand. -/

namespace Sys2Proof.Machine

open Sys2Proof.Claims

/-! ### Rotates of A -/

theorem rotateA_form : ∀ e ∈ rotateAForms, Form e.1 [e.2.1] 4 (rotateA e.2.2) := by
  iterate 4 refine List.forall_mem_cons.2 ⟨⟨rfl, rfl, rfl, fun _ => rfl⟩, ?_⟩
  exact List.forall_mem_nil _

/-- Settles O42: each form is `rotateA` by its function (`rotateA_spec`). -/
theorem accumulatorRotates : Obligations.AccumulatorRotates := fun _ _ f hmem s => (rotateA_form _ hmem).runs (rotateA_spec f s)

/-! ### Shifts of the extended set -/

/-- The result and flags of a shift function over numbers (R231). -/
theorem shift8_says (f : Shift) (v : Byte) (cin : Bool) :
    (shift8 f v cin).Says (shiftValue f v.toNat cin) (shiftValue f v.toNat cin = 0) False False (shiftsOut f v.toNat) := by
  have hz : (shift8 f v cin).z = true ↔ (f.res v cin).toNat = 0 := by simp [shift8, ← BitVec.toNat_inj]
  rw [shift_res_toNat] at hz
  exact ⟨shift_res_toNat f v cin, hz, by simp [shift8], by simp [shift8], shift_cout_iff f v⟩

theorem shiftOperand_reg {r : Reg8} (hr : r ∈ dataRegs) (f : Shift) (s : State) :
    RegAndFlags r (shiftValue f (s.r8 r).toNat (s.flag .C)) (shiftValue f (s.r8 r).toNat (s.flag .C) = 0) False False
      (shiftsOut f (s.r8 r).toNat) 2 s (shiftOperand f (.reg r) s) := by
  obtain ⟨hres, hz, hn, hh, hc⟩ := shift8_says f (s.r8 r) (s.flag .C)
  obtain ⟨hval, hflags, hframe⟩ := modify_reg hr 2 (shift8 f) s
  exact ⟨hval.trans hres, flagsAre_imp hflags hz hn hh hc, hframe⟩

/-- On memory the flags come from the byte read (R230). -/
theorem shiftOperand_mem (a : Word) (f : Shift) (s : State) :
    CellAndFlags a (shiftValue f (s.byte a).toNat (s.flag .C)) (shiftValue f (s.byte a).toNat (s.flag .C) = 0) False False
      (shiftsOut f (s.byte a).toNat) 2 s (shiftOperand f (.mem a) s) := by
  obtain ⟨hres, hz, hn, hh, hc⟩ := shift8_says f (s.byte a) (s.flag .C)
  obtain ⟨hstored, hflags, hframe⟩ := modify_mem 2 a (shift8 f) s
  exact ⟨hres ▸ hstored, flagsAre_imp hflags hz hn hh hc, hframe⟩

theorem shiftReg_form : ∀ e ∈ shiftReg, Form e.1 [0xCB, e.2.1] 8 (shiftOperand e.2.2.1 (.reg e.2.2.2)) := by
  iterate 56 refine List.forall_mem_cons.2 ⟨⟨rfl, rfl, rfl, fun _ => rfl⟩, ?_⟩
  exact List.forall_mem_nil _

theorem shiftReg_regs : ∀ e ∈ shiftReg, e.2.2.2 ∈ dataRegs := by decide

theorem shiftHL_form : ∀ e ∈ shiftHL, Form e.1 [0xCB, e.2.1] 16 (fun s => shiftOperand e.2.2 (.mem s.hl) s) := by
  iterate 8 refine List.forall_mem_cons.2 ⟨⟨rfl, rfl, rfl, fun _ => rfl⟩, ?_⟩
  exact List.forall_mem_nil _

/-- Settles O43: each form is `shiftOperand` of a register or of the byte at HL. -/
theorem shiftForms : Obligations.ShiftForms :=
  ⟨fun _ _ f _ hmem s => (shiftReg_form _ hmem).runs (shiftOperand_reg (shiftReg_regs _ hmem) f s),
    fun _ _ f hmem s => (shiftHL_form _ hmem).runs (shiftOperand_mem s.hl f s)⟩

/-! ### The second byte of a bit instruction -/

/-- The fields side by side, as the number the tables of the statements count from (R101, R106). -/
theorem bitByte_eq_ofNat : ∀ x b z, bitByte x b z = BitVec.ofNat 8 (x.toNat * 64 + z.toNat + 8 * b.toNat) := by decide

theorem prefix_bitByte_eq_ofNat (x : BitVec 2) (b z : BitVec 3) :
    [0xCB, bitByte x b z] = [0xCB, BitVec.ofNat 8 (x.toNat * 64 + z.toNat + 8 * b.toNat)] :=
  congrArg (fun op2 : Byte => [0xCB, op2]) (bitByte_eq_ofNat x b z)

/-! ### BIT -/

theorem bitReg_form : ∀ e ∈ bitReg, e.2.2 ∈ dataRegs ∧
    ∀ b, Form (e.1 b) [0xCB, BitVec.ofNat 8 (e.2.1 + 8 * b.toNat)] 8 (testBit b (.reg e.2.2)) := by
  iterate 7 refine List.forall_mem_cons.2 ⟨⟨by decide, fun b => ⟨rfl, prefix_bitByte_eq_ofNat 1 b _, rfl, fun _ => rfl⟩⟩, ?_⟩
  exact List.forall_mem_nil _

/-- Settles O44: each form is `testBit` of a register, which PC's move past the instruction leaves alone, or of the byte at HL. -/
theorem bitTestForms : Obligations.BitTestForms := by
  refine ⟨fun i op2 r hmem b s => ?_, fun b s => ?_⟩
  · obtain ⟨hr, hform⟩ := bitReg_form _ hmem
    refine (hform b).runs ?_
    rw [← State.r8_advance_of_mem_dataRegs hr s 2]
    exact testBit_spec b (.reg r) s
  · have hform : Form (.bit_b_atHL b) [0xCB, BitVec.ofNat 8 (0x46 + 8 * b.toNat)] 12 (fun s => testBit b (.mem s.hl) s) :=
      ⟨rfl, prefix_bitByte_eq_ofNat 1 b 6, rfl, exec_bit_b_atHL b⟩
    exact hform.runs (testBit_spec b (.mem s.hl) s)

/-! ### RES and SET -/

/-- Storing `k` of a register's byte back into it. -/
theorem loadsReg_rewriteReg {r : Reg8} (hr : r ∈ dataRegs) (n : Nat) (k : Byte → Byte) (s : State) :
    LoadsReg r (k (s.r8 r)) (BitVec.ofNat 16 n) s ((s.advance n).getThen (.reg r) fun v => (s.advance n).setOperand (.reg r) (k v)) := by
  rw [State.getThen_eq, State.operandByte_reg, State.r8_advance_of_mem_dataRegs hr]
  exact loadsReg_setR8 hr n _ s

/-- Storing `k` of the byte at an address back there. -/
theorem storesByte_rewriteMem (n : Nat) (a : Word) (k : Byte → Byte) (s : State) :
    StoresByte a (k (s.byte a)) (BitVec.ofNat 16 n) s ((s.advance n).getThen (.mem a) fun v => (s.advance n).setOperand (.mem a) (k v)) := by
  rw [State.getThen_eq, State.operandByte_mem, State.byte_advance]
  exact storesByte_storeByte n a _ s

theorem resReg_form : ∀ e ∈ resReg, e.2.2 ∈ dataRegs ∧
    ∀ b, Form (e.1 b) [0xCB, BitVec.ofNat 8 (e.2.1 + 8 * b.toNat)] 8 (resetBit b (.reg e.2.2)) := by
  iterate 7 refine List.forall_mem_cons.2 ⟨⟨by decide, fun b => ⟨rfl, prefix_bitByte_eq_ofNat 2 b _, rfl, fun _ => rfl⟩⟩, ?_⟩
  exact List.forall_mem_nil _

theorem setReg_form : ∀ e ∈ setReg, e.2.2 ∈ dataRegs ∧
    ∀ b, Form (e.1 b) [0xCB, BitVec.ofNat 8 (e.2.1 + 8 * b.toNat)] 8 (setBit b (.reg e.2.2)) := by
  iterate 7 refine List.forall_mem_cons.2 ⟨⟨by decide, fun b => ⟨rfl, prefix_bitByte_eq_ofNat 3 b _, rfl, fun _ => rfl⟩⟩, ?_⟩
  exact List.forall_mem_nil _

/-- Settles O45: RES stores the byte with the bit masked off (`withBit_false`), SET the byte with it put in (`withBit_true`). -/
theorem bitResetAndSetForms : Obligations.BitResetAndSetForms := by
  refine ⟨fun i op2 r hmem b s => ?_, fun b s => ?_, fun i op2 r hmem b s => ?_, fun b s => ?_⟩
  · obtain ⟨hr, hform⟩ := resReg_form _ hmem
    rw [← withBit_false]
    exact (hform b).runs (loadsReg_rewriteReg hr 2 (· &&& _) s)
  · have hform : Form (.res_b_atHL b) [0xCB, BitVec.ofNat 8 (0x86 + 8 * b.toNat)] 16 (fun s => resetBit b (.mem s.hl) s) :=
      ⟨rfl, prefix_bitByte_eq_ofNat 2 b 6, rfl, exec_res_b_atHL b⟩
    rw [← withBit_false]
    exact hform.runs (storesByte_rewriteMem 2 s.hl (· &&& _) s)
  · obtain ⟨hr, hform⟩ := setReg_form _ hmem
    rw [← withBit_true]
    exact (hform b).runs (loadsReg_rewriteReg hr 2 (· ||| _) s)
  · have hform : Form (.set_b_atHL b) [0xCB, BitVec.ofNat 8 (0xC6 + 8 * b.toNat)] 16 (fun s => setBit b (.mem s.hl) s) :=
      ⟨rfl, prefix_bitByte_eq_ofNat 3 b 6, rfl, exec_set_b_atHL b⟩
    rw [← withBit_true]
    exact hform.runs (storesByte_rewriteMem 2 s.hl (· ||| _) s)

end Sys2Proof.Machine
end

section
/-! PROOFS. The system instructions, 0xCB and the faulting opcodes (46_system.md R260 to R268). Behind 0xCB the map and the meaning
split the second byte into the same fields; a fault of one opcode byte is one state, which the instruction and the step that fetches it both
answer. -/

namespace Sys2Proof.Machine

open Sys2Proof.Claims

/-! ### NOP, HALT, DI and EI -/

/-- Settles O46: each is its shared meaning, a fixed form of one byte. -/
theorem systemInstructions : Obligations.SystemInstructions := fun _ =>
  ⟨Form.runsTo ⟨rfl, rfl, rfl, exec_nop⟩ rfl, Form.runsTo ⟨rfl, rfl, rfl, exec_halt⟩ rfl, Form.runsTo ⟨rfl, rfl, rfl, exec_di⟩ rfl,
    Form.runsTo ⟨rfl, rfl, rfl, exec_ei⟩ rfl⟩

/-! ### The halted step -/

/-- After a CPU step that latched no fault the devices and the dispatch run (R6). -/
theorem afterCpu_of_unfaulted (c : Nat) {t : State} (h : t.fault = none) : afterCpu c t = interruptDispatch (gfxStep c (timerStep c t)) := by
  simp [afterCpu, h]

/-- Settles O6: the idle CPU step (`cpuStep_halted`) latches nothing, so the rest of the step follows it. -/
theorem haltedStepIdles : Obligations.HaltedStepIdles := fun _ hfault hhalt =>
  (step_of_cpuStep hfault (cpuStep_halted hhalt)).trans (congrArg Host.Outcome.next (afterCpu_of_unfaulted Config.haltIdleCycles hfault))

/-! ### 0xCB -/

/-- Entry `z` of a list of eight does `f` to the operand of code `z`, at each bit number. -/
def EntriesMean (l : List (BitVec 3 → Instr)) (f : BitVec 3 → Operand8 → State → State) : Prop :=
  ∀ e ∈ l.zipIdx, ∀ b s, exec (e.1 b) s = .next (f b (operandOf s (BitVec.ofNat 3 e.2)) s)

theorem EntriesMean.exec_atCode {l : List (BitVec 3 → Instr)} {f : BitVec 3 → Operand8 → State → State} (h : EntriesMean l f)
    (hl : l.length = 8) (z b : BitVec 3) (s : State) : exec (atCode l hl z b) s = .next (f b (operandOf s z) s) := by
  have hmem : (atCode l hl z, z.toNat) ∈ l.zipIdx := List.mk_mem_zipIdx_iff_getElem?.2 (by simp [atCode])
  simpa using h _ hmem b s

theorem extendedBit_mean : EntriesMean extendedBit testBit := by
  iterate 8 refine List.forall_mem_cons.2 ⟨fun _ _ => rfl, ?_⟩
  exact List.forall_mem_nil _

theorem extendedRes_mean : EntriesMean extendedRes resetBit := by
  iterate 8 refine List.forall_mem_cons.2 ⟨fun _ _ => rfl, ?_⟩
  exact List.forall_mem_nil _

theorem extendedSet_mean : EntriesMean extendedSet setBit := by
  iterate 8 refine List.forall_mem_cons.2 ⟨fun _ _ => rfl, ?_⟩
  exact List.forall_mem_nil _

/-- Entry 8 y + z of the shifts is the function of code `y` on the operand of code `z`. -/
theorem extendedShifts_mean : ∀ e ∈ extendedShifts.zipIdx, ∀ s,
    exec e.1 s = .next (shiftOperand (shiftOf (BitVec.ofNat 3 (e.2 / 8))) (operandOf s (BitVec.ofNat 3 e.2)) s) := by
  iterate 64 refine List.forall_mem_cons.2 ⟨fun _ => rfl, ?_⟩
  exact List.forall_mem_nil _

/-- The fields y and z side by side are the low six bits (R101). -/
theorem shiftCode_fields : ∀ op2 : Byte, BitVec.ofNat 3 ((op2.extractLsb' 0 6).toNat / 8) = op2.extractLsb' 3 3 ∧
    BitVec.ofNat 3 (op2.extractLsb' 0 6).toNat = op2.extractLsb' 0 3 := by decide

theorem exec_extendedShifts (op2 : Byte) (h : (op2.extractLsb' 0 6).toNat < extendedShifts.length) (s : State) :
    exec (extendedShifts.get ⟨(op2.extractLsb' 0 6).toNat, h⟩) s =
      .next (shiftOperand (shiftOf (op2.extractLsb' 3 3)) (operandOf s (op2.extractLsb' 0 3)) s) := by
  obtain ⟨hy, hz⟩ := shiftCode_fields op2
  have hmem : (extendedShifts.get ⟨_, h⟩, (op2.extractLsb' 0 6).toNat) ∈ extendedShifts.zipIdx :=
    List.mk_mem_zipIdx_iff_getElem?.2 (List.getElem?_eq_getElem h)
  rw [extendedShifts_mean _ hmem, hy, hz]

/-- The instruction of the extended map means what the bare 0xCB term runs: field x picks the same row of the map and of the meaning. -/
theorem exec_extended (op2 : Byte) (s : State) : exec (extended op2) s = .next (prefixed op2 s) := by
  have himpl : Config.implementedCB op2 = true := rfl
  rw [extended, prefixed, if_pos himpl, if_pos himpl, extendedOp]
  dsimp only
  generalize (op2.extractLsb' 6 2).toNat = x
  match x with
  | 0 => exact exec_extendedShifts op2 _ s
  | 1 => exact extendedBit_mean.exec_atCode rfl _ _ s
  | 2 => exact extendedRes_mean.exec_atCode rfl _ _ s
  | _ + 3 => exact extendedSet_mean.exec_atCode rfl _ _ s

/-- The two cost tables agree (R106). -/
theorem cost_extended : ∀ op2 : Byte, cost (extended op2) = cost (.prefixCB op2) := by decide

/-- Settles O47: the bytes decode to the entry of the extended map, whose meaning and cost are `exec_extended` and `cost_extended`. -/
theorem prefixRunsExtendedInstruction : Obligations.PrefixRunsExtendedInstruction := fun op2 rest =>
  ⟨extended op2, decode_extended rfl rest, fun s => ⟨prefixed op2 s, exec_extended op2 s, exec_prefixCB op2 s, by rw [cost_extended]⟩⟩

/-! ### The faulting opcodes -/

/-- The fault of a one-byte opcode in an unfaulted state: the latch is set, PC is past the byte, nothing else changes (R301). -/
theorem State.unimplemented_one {s : State} (hfault : s.fault = none) (op : Byte) :
    s.unimplemented op 1 = { s with pc := s.pc + 1, fault := some (.unimplementedOpcode op s.pc) } := by
  simp [State.unimplemented, State.raise, State.advance, hfault]

/-- The step that fetches an unimplemented byte takes its fault and ends there, whatever bytes follow (R267, R301). -/
theorem step_of_mem_unimplementedOpcodes {s : State} (hfault : s.fault = none) (hrun : s.halted = false)
    (hop : s.byte s.pc ∈ unimplementedOpcodes) : step s = .next (s.unimplemented (s.byte s.pc) 1) := by
  have hexec := exec_decodeBytes_of_not_implemented ((implemented_eq_false_iff _).2 hop) (s.byte (s.pc + 1)) (s.byte (s.pc + 2)) s
  have hlatched : (s.unimplemented (s.byte s.pc) 1).fault ≠ none := by simp [State.unimplemented_one hfault]
  rw [step_running hfault hrun (fetch_eq s) hexec, if_neg hlatched]

/-- A form whose meaning is the fault of `op` runs to that fault, and so does the step that fetches `op`. -/
theorem Form.faults {i : Instr} {code : List Byte} {op : Byte} (h : Form i code 0 (·.unimplemented op 1)) (hop : op ∈ unimplementedOpcodes)
    {s : State} (hfault : s.fault = none) :
    RunsTo i code 0 s { s with pc := s.pc + 1, fault := some (.unimplementedOpcode op s.pc) } ∧
      (s.halted = false → s.byte s.pc = op → step s = .next { s with pc := s.pc + 1, fault := some (.unimplementedOpcode op s.pc) }) := by
  rw [← State.unimplemented_one hfault]
  refine ⟨h.runsTo rfl, fun hrun hbyte => ?_⟩
  subst hbyte
  exact step_of_mem_unimplementedOpcodes hfault hrun hop

theorem illegalForms_form : ∀ e ∈ illegalForms, Form e.1 [e.2] 0 (·.unimplemented e.2 1) := by
  iterate 11 refine List.forall_mem_cons.2 ⟨⟨rfl, rfl, rfl, fun _ => rfl⟩, ?_⟩
  exact List.forall_mem_nil _

theorem illegalForms_unimplemented : ∀ e ∈ illegalForms, e.2 ∈ unimplementedOpcodes := by decide

/-- Settles O48: each illegal opcode is a form that faults. -/
theorem illegalOpcodesFault : Obligations.IllegalOpcodesFault := fun _ _ hmem _ hfault =>
  (illegalForms_form _ hmem).faults (illegalForms_unimplemented _ hmem) hfault

/-- Settles O49: STOP is a form of two bytes that faults at its first. -/
theorem stopFaults : Obligations.StopFaults := by
  intro n s hfault
  have hform : Form (.stop n) [0x10, n] 0 (·.unimplemented 0x10 1) := ⟨rfl, rfl, rfl, exec_stop n⟩
  exact hform.faults (by decide) hfault

end Sys2Proof.Machine
end

section
/-! PROOFS. Interrupt dispatch (60_exceptions.md R310 to R319): which source is taken, what taking it leaves, and that RETI undoes it. -/

namespace Sys2Proof.Machine

open Sys2Proof.Claims

/-! ### What a write looks at -/

/-- A bus write looks at memory and the Diagnostic trace alone. -/
theorem State.write_congr {s t : State} (hmem : t.mem = s.mem) (hdiags : t.diags = s.diags) (a : Word) (v : Byte) :
    t.write a v = { t with mem := (s.write a v).mem, diags := (s.write a v).diags } := by
  have hwrite : (t.write a v).mem = (s.write a v).mem := by
    unfold State.write
    split
    case h_7 =>
      unfold State.ioWrite
      split_ifs <;> simp [hmem]
    all_goals simp [hmem]
  rw [State.write_eq, hwrite, State.diags_write, State.diags_write, hdiags, State.byte_congr _ hmem]

theorem State.writeWord_congr {s t : State} (hmem : t.mem = s.mem) (hdiags : t.diags = s.diags) (a v : Word) :
    t.writeWord a v = { t with mem := (s.writeWord a v).mem, diags := (s.writeWord a v).diags } := by
  have hlow := State.write_congr hmem hdiags a (loByte v)
  unfold State.writeWord
  rw [State.write_congr (s := s.write a (loByte v)) (t := t.write a (loByte v)) (by rw [hlow]) (by rw [hlow]), hlow]

/-- `push16` looks at SP, memory and the Diagnostic trace alone. -/
theorem State.push16_congr {s t : State} (hsp : t.sp = s.sp) (hmem : t.mem = s.mem) (hdiags : t.diags = s.diags) (v : Word) :
    t.push16 v = { t with sp := s.sp - 2, mem := (s.push16 v).mem, diags := (s.push16 v).diags } := by
  unfold State.push16
  rw [hsp]
  exact State.writeWord_congr (s := { s with sp := s.sp - 2 }) (t := { t with sp := s.sp - 2 }) hmem hdiags _ v

/-- Above the echo window an address is alone in its cell. -/
theorem Memory.home_eq_toNat_iff {k : Word} (hk : 0xFE00 ≤ k.toNat) (a : Word) : Memory.home a = k.toNat ↔ a = k := by
  rw [← Memory.home_of_not_echo (a := k) (by omega), Memory.home_eq_iff k a]
  have ha := a.isLt
  exact or_iff_left (by omega)

/-! ### The source taken -/

theorem getLsbD_0x1F (i : Nat) : (0x1F : Byte).getLsbD i = decide (i < 5) := by
  by_cases hi : i < 8
  · interval_cases i <;> rfl
  · rw [BitVec.getLsbD_of_ge _ _ (by omega), eq_comm, decide_eq_false_iff_not]
    omega

/-- A source is pending when its bit of `IE & IF & 0x1F` is set (R313). -/
theorem pending_iff (s : State) (i : Nat) : Pending s i ↔ s.pendingInterrupts.getLsbD i = true := by
  change (i < 5 ∧ (s.dev ieAddr).getLsbD i = true ∧ (s.dev ifAddr).getLsbD i = true) ↔ _
  rw [State.pendingInterrupts, BitVec.getLsbD_and, BitVec.getLsbD_and, getLsbD_0x1F, Bool.and_eq_true, Bool.and_eq_true,
    decide_eq_true_iff, and_comm]

theorem pendingInterrupts_eq_zero_iff (s : State) : s.pendingInterrupts = 0 ↔ ∀ i, ¬Pending s i := by
  simp only [pending_iff, Bool.not_eq_true]
  constructor
  · intro h i
    rw [h]
    exact BitVec.getLsbD_zero
  · exact fun h => BitVec.eq_of_getLsbD_eq fun i _ => (h i).trans BitVec.getLsbD_zero.symm

theorem pendingInterrupts_ne_zero {s : State} {i : Nat} (h : Pending s i) : s.pendingInterrupts ≠ 0 := fun h0 =>
  (pendingInterrupts_eq_zero_iff s).1 h0 i h

/-- `leastSource` is the first source in priority (R314). -/
theorem leastSource_eq {s : State} {i : Nat} (h : Pending s i) (hfirst : ∀ j, j < i → ¬Pending s j) :
    leastSource s.pendingInterrupts = i := by
  have hleast : ∀ p : Byte, ∀ k : Fin 5, p.getLsbD k = true → (∀ j : Fin 5, j < k → p.getLsbD j ≠ true) → leastSource p = k := by decide
  exact hleast s.pendingInterrupts ⟨i, h.1⟩ ((pending_iff s i).1 h) fun j hj => (pending_iff s j).not.1 (hfirst j hj)

/-! ### The dispatch -/

/-- Taking source `i` in a halted or running state: PC pushed, the vector, IME and the source's IF bit cleared, the halt ended (R313, R315). -/
theorem takeInterrupt_woken (s : State) (i : Nat) :
    { s with halted := false }.takeInterrupt i =
      { s.push16 s.pc with
        pc := interruptVector i, ime := false, halted := false
        mem := Memory.poke (s.push16 s.pc).mem ifAddr ((s.push16 s.pc).dev ifAddr &&& ~~~(BitVec.ofNat 8 (2 ^ i))) } := by
  unfold State.takeInterrupt
  rw [State.push16_congr (s := s) (t := { s with halted := false }) rfl rfl rfl, State.push16_eq s]
  rfl

theorem interruptDispatch_taken {s : State} {i : Nat} (h : Pending s i) (hime : s.ime = true) :
    interruptDispatch s = { s with halted := false }.takeInterrupt (leastSource s.pendingInterrupts) := by
  rw [interruptDispatch, if_neg (pendingInterrupts_ne_zero h), if_pos hime]

/-- Taking an interrupt stores nothing but the two bytes pushed and IF. -/
theorem interruptDispatch_taken_byte {s : State} {i : Nat} (h : Pending s i) (hime : s.ime = true) {a : Word} (ha : a ≠ 0xFF0F) :
    (interruptDispatch s).byte a = (s.push16 s.pc).byte a := by
  rw [interruptDispatch_taken h hime, takeInterrupt_woken]
  exact (State.byte_devWrite _ ifAddr _ a).trans (if_neg ((Memory.home_eq_toNat_iff (k := 0xFF0F) (by decide) a).not.2 ha))

/-- Settles O50: the two arms of the dispatch that take nothing. -/
theorem dispatchWithoutService : Obligations.DispatchWithoutService := by
  refine fun s => ⟨fun h => ?_, fun i h hime => ?_⟩
  · rw [interruptDispatch, if_pos ((pendingInterrupts_eq_zero_iff s).2 h)]
  · rw [interruptDispatch, if_neg (pendingInterrupts_ne_zero h), if_neg (by simp [hime])]

theorem interruptVector_eq (i : Nat) : interruptVector i = 0x0040 + 8 * BitVec.ofNat 16 i := by
  rw [interruptVector, BitVec.ofNat_add, BitVec.ofNat_mul]
  rfl

theorem getLsbD_and_not_two_pow (v : Byte) (i : Nat) {k : Nat} (hk : k < 8) :
    (v &&& ~~~(BitVec.ofNat 8 (2 ^ i))).getLsbD k = (k != i && v.getLsbD k) := by
  have hbit : (BitVec.ofNat 8 (2 ^ i)).getLsbD k = decide (i = k) := by
    rw [BitVec.getLsbD_ofNat, Nat.testBit_two_pow, decide_eq_true hk, Bool.true_and]
  rw [BitVec.getLsbD_and, BitVec.getLsbD_not, hbit, decide_eq_true hk, Bool.true_and, Bool.and_comm]
  by_cases hik : i = k <;> simp [hik, Ne.symm]

/-- Settles O51: the source by `leastSource_eq`, what taking it leaves by `takeInterrupt_woken`. -/
theorem dispatchTakesFirstSource : Obligations.DispatchTakesFirstSource := by
  intro s i h hfirst hime
  have hbyte : ∀ b, b ≠ 0xFF0F → (interruptDispatch s).byte b = (s.push16 s.pc).byte b := fun _ => interruptDispatch_taken_byte h hime
  rw [interruptDispatch_taken h hime, leastSource_eq h hfirst, takeInterrupt_woken] at hbyte ⊢
  refine ⟨interruptVector_eq i, s.push16_sp s.pc, by simp [RegsKept, dataRegs], by simp [FlagsKept], hbyte, fun k hk => ?_, rfl, ?_⟩
  · exact (congrArg (·.getLsbD k) (Memory.peek_poke_self _ ifAddr _)).trans (getLsbD_and_not_two_pow _ i hk)
  · rw [State.push16_eq]
    exact ⟨rfl, rfl, rfl, rfl, rfl, rfl, rfl, rfl, rfl, rfl⟩

/-! ### The return -/

/-- A byte pushed where it is kept is read back. -/
theorem storedAs_eq_of_kept {a : Word} (h : 0x8000 ≤ a.toNat ∧ a ≠ 0xFF44 ∧ a ≠ 0xFF0F) (v old : Byte) : storedAs a v old = v := by
  obtain ⟨hrom, hly, hif⟩ := h
  rw [storedAs, if_neg (not_or.2 ⟨by omega, hly⟩), if_neg hif]

/-- Settles O52: the dispatch keeps the two bytes pushed (`storedWord_push16`), since neither is IF's, and RETI reads them (`reti_eq`). -/
theorem retiUndoesDispatch : Obligations.RetiUndoesDispatch := by
  intro s i h hime hkept
  obtain ⟨hlow, hhigh, -, -⟩ := storedWord_push16 s s.pc
  have hbottom := hkept (s.sp - 2) (.inl rfl)
  have htop := hkept (s.sp - 2 + 1) (.inr (by bv_omega))
  obtain ⟨-, -, hbottomIf⟩ := hkept (s.sp - 2) (.inl rfl)
  obtain ⟨-, -, htopIf⟩ := hkept (s.sp - 2 + 1) (.inr (by bv_omega))
  have hlo : (interruptDispatch s).byte (s.sp - 2) = loByte s.pc := by
    rw [interruptDispatch_taken_byte h hime hbottomIf, hlow _ (.inl rfl), storedAs_eq_of_kept hbottom]
    rfl
  have hhi : (interruptDispatch s).byte (s.sp - 2 + 1) = hiByte s.pc := by
    rw [interruptDispatch_taken_byte h hime htopIf, hhigh _ (.inl rfl), storedAs_eq_of_kept htop]
    rfl
  have hregs : interruptDispatch s = { interruptDispatch s with sp := s.sp - 2, af := s.af, bc := s.bc, de := s.de, hl := s.hl } := by
    rw [interruptDispatch_taken h hime, takeInterrupt_woken, State.push16_eq]
  have hsp : (interruptDispatch s).sp = s.sp - 2 := by rw [hregs]
  have hback : s.sp - 2 + 2 = s.sp := by bv_omega
  refine ⟨reti (interruptDispatch s), exec_reti _, ?_⟩
  rw [reti_eq, hsp, hlo, hhi, mkWord_hiByte_loByte, hback, hregs]
  exact ⟨rfl, rfl, rfl, by simp [RegsKept, dataRegs], rfl⟩

end Sys2Proof.Machine
end

section
/-! PROOFS. The timer (60_exceptions.md R320 to R323): each loop is its tick, iterated as often as the accumulator says, and a tick iterated adds up. -/

namespace Sys2Proof.Machine

open Sys2Proof.Claims

/-! ### The divider -/

/-- The divider's loop ticks once for every 256 in its accumulator. -/
theorem divLoop_eq_iterate (n : Nat) (s : State) (h : s.divAcc < n * 256 + 256) : divLoop n s = divTick^[s.divAcc / 256] s := by
  induction n generalizing s with
  | zero =>
    rw [Nat.div_eq_of_lt (by omega)]
    rfl
  | succ n ih =>
    rw [divLoop]
    split
    · have hcount : s.divAcc / 256 = (divTick s).divAcc / 256 + 1 := by
        rw [divTick_eq]
        dsimp only
        omega
      rw [hcount, Function.iterate_succ_apply, ih]
      rw [divTick_eq]
      dsimp only
      omega
    · rw [Nat.div_eq_of_lt (by omega)]
      rfl

theorem divStep_eq_iterate (c : Nat) (s : State) : divStep c s = divTick^[(s.divAcc + c) / 256] { s with divAcc := s.divAcc + c } :=
  divLoop_eq_iterate _ _ (by dsimp only; omega)

/-- `n` ticks of the divider: 256 off the accumulator at each, and DIV up by one, wrapping. -/
theorem divTick_iterate (n : Nat) (s : State) :
    (divTick^[n] s).divAcc = s.divAcc - n * 256 ∧ (divTick^[n] s).dev divAddr = s.dev divAddr + BitVec.ofNat 8 n := by
  induction n with
  | zero => simp
  | succ n ih =>
    obtain ⟨hacc, hdiv⟩ := ih
    rw [Function.iterate_succ_apply', divTick_dev, if_pos rfl, divTick_eq]
    dsimp only
    rw [hacc, hdiv, BitVec.ofNat_add, BitVec.add_assoc]
    exact ⟨by omega, rfl⟩

theorem divStep_divAcc (c : Nat) (s : State) : (divStep c s).divAcc = (s.divAcc + c) % 256 := by
  rw [divStep_eq_iterate, (divTick_iterate _ _).1]
  dsimp only
  omega

theorem divStep_dev_div (c : Nat) (s : State) : (divStep c s).dev divAddr = s.dev divAddr + BitVec.ofNat 8 ((s.divAcc + c) / 256) := by
  rw [divStep_eq_iterate, (divTick_iterate _ _).2]
  rfl

theorem timerStep_divAcc (c : Nat) (s : State) : (timerStep c s).divAcc = (s.divAcc + c) % 256 := by
  rw [timerStep, timaStep_eq, divStep_divAcc]

theorem timerStep_dev_div (c : Nat) (s : State) :
    (timerStep c s).dev divAddr = s.dev divAddr + BitVec.ofNat 8 ((s.divAcc + c) / 256) := by
  rw [timerStep, timaStep_dev_ne _ _ (by decide) (by decide), divStep_dev_div]

theorem timerStep_dev_ne (c : Nat) (s : State) {k : Nat} (hdiv : k ≠ divAddr) (htima : k ≠ timaAddr) (hif : k ≠ ifAddr) :
    (timerStep c s).dev k = s.dev k := by
  rw [timerStep, timaStep_dev_ne _ _ htima hif, divStep_dev_ne _ _ hdiv]

/-- Above the echo window different addresses are different cells. -/
theorem Memory.home_ne_toNat {a k : Word} (hk : 0xFE00 ≤ k.toNat) (h : a ≠ k) : Memory.home a ≠ k.toNat :=
  (Memory.home_eq_toNat_iff hk a).not.2 h

/-- Settles O53: the divider by its iterated tick, the rest by what a timer step can change. -/
theorem dividerCounts : Obligations.DividerCounts := by
  refine fun s c => ⟨timerStep_divAcc c s, ?_, fun a hdiv htima hif => ?_, timerStep_eq c s⟩
  · change ((timerStep c s).dev divAddr).toNat = ((s.dev divAddr).toNat + _) % 256
    rw [timerStep_dev_div, BitVec.toNat_add, BitVec.toNat_ofNat]
    omega
  · exact timerStep_dev_ne c s (Memory.home_ne_toNat (k := 0xFF04) (by decide) hdiv) (Memory.home_ne_toNat (k := 0xFF05) (by decide) htima)
      (Memory.home_ne_toNat (k := 0xFF0F) (by decide) hif)

/-! ### The counter -/

/-- How often the threshold `th` is exceeded while it is taken off `acc` (R322, D8). -/
def timaTicks (th acc : Nat) : Nat := (acc - 1) / th

theorem timaTicks_of_le {th acc : Nat} (h : acc ≤ th) : timaTicks th acc = 0 := by
  obtain rfl | hacc := Nat.eq_zero_or_pos acc
  · exact Nat.zero_div th
  · exact Nat.div_eq_of_lt (by omega)

theorem timaTicks_of_lt {th acc : Nat} (hth : 0 < th) (h : th < acc) : timaTicks th acc = timaTicks th (acc - th) + 1 := by
  rw [timaTicks, timaTicks, ← Nat.add_div_right _ hth]
  congr 1
  omega

/-- The counter's loop ticks as often as `timaTicks` says. -/
theorem timaLoop_eq_iterate {th : Nat} (hth : 0 < th) (n : Nat) (s : State) (h : s.timaAcc ≤ n + th) :
    timaLoop th n s = (timaTick th)^[timaTicks th s.timaAcc] s := by
  induction n generalizing s with
  | zero =>
    rw [timaTicks_of_le (by omega)]
    rfl
  | succ n ih =>
    rw [timaLoop]
    split
    · next hlt =>
      have hacc : (timaTick th s).timaAcc = s.timaAcc - th := by rw [timaTick_eq]
      rw [timaTicks_of_lt hth hlt, Function.iterate_succ_apply, ih _ (by omega), hacc]
    · rw [timaTicks_of_le (by omega)]
      rfl

theorem timerStep_of_enabled {s : State} (h : timaEnabled (s.dev tacAddr) = true) (c : Nat) :
    timerStep c s =
      (timaTick (timaThreshold (s.dev tacAddr)))^[timaTicks (timaThreshold (s.dev tacAddr)) (s.timaAcc + c)]
        { divStep c s with timaAcc := s.timaAcc + c } := by
  have htac : (divStep c s).dev tacAddr = s.dev tacAddr := divStep_dev_ne c s (by decide)
  have hacc : (divStep c s).timaAcc = s.timaAcc := by rw [divStep_eq]
  rw [timerStep, timaStep, htac, if_pos h, hacc]
  exact timaLoop_eq_iterate (timaThreshold_pos _).1 _ _ (Nat.le_add_right _ _)

theorem timerStep_of_disabled {s : State} (h : timaEnabled (s.dev tacAddr) = false) (c : Nat) : timerStep c s = divStep c s := by
  have htac : (divStep c s).dev tacAddr = s.dev tacAddr := divStep_dev_ne c s (by decide)
  rw [timerStep, timaStep, htac, h]
  rfl

/-- The Timer request of `n` increments from `v`: raised if one of them is past 255 (R38). -/
def timaRequest (tma v : Byte) (n : Nat) : Byte := if ∃ k, k < n ∧ (timaNext tma)^[k] v = 0xFF then 0x04 else 0x00

theorem timaRequest_zero (tma v : Byte) : timaRequest tma v 0 = 0x00 := by simp [timaRequest]

theorem timaRequest_succ (tma v : Byte) (n : Nat) :
    timaRequest tma v (n + 1) = timaRequest tma v n ||| if (timaNext tma)^[n] v = 0xFF then 0x04 else 0x00 := by
  unfold timaRequest
  rw [if_congr Nat.exists_lt_succ_right rfl rfl]
  by_cases hbefore : ∃ k, k < n ∧ (timaNext tma)^[k] v = 0xFF
  · rw [if_pos (.inl hbefore), if_pos hbefore]
    split <;> rfl
  · rw [if_neg hbefore, if_congr (or_iff_right hbefore) rfl rfl]
    exact BitVec.zero_or.symm

theorem timaTick_dev_ne (th : Nat) (s : State) {k : Nat} (htima : k ≠ timaAddr) (hif : k ≠ ifAddr) : (timaTick th s).dev k = s.dev k := by
  rw [timaTick_dev]
  simp [htima, hif]

/-- One tick of the counter in the words of the claims: TIMA's next value, and the request if it was 255. -/
theorem timaTick_registers (th : Nat) (s : State) :
    (timaTick th s).dev timaAddr = timaNext (s.dev tmaAddr) (s.dev timaAddr) ∧
      (timaTick th s).dev ifAddr = s.dev ifAddr ||| if s.dev timaAddr = 0xFF then 0x04 else 0x00 := by
  rw [timaTick_dev, timaTick_dev, timaNext]
  split <;> simp [show timaAddr ≠ ifAddr by decide, show ifAddr ≠ timaAddr by decide]

/-- `n` ticks of the counter: the threshold off the accumulator at each, TIMA iterated, and the requests raised on the way. -/
theorem timaTick_iterate (th n : Nat) (s : State) :
    ((timaTick th)^[n] s).timaAcc = s.timaAcc - n * th ∧
      ((timaTick th)^[n] s).dev timaAddr = (timaNext (s.dev tmaAddr))^[n] (s.dev timaAddr) ∧
      ((timaTick th)^[n] s).dev ifAddr = s.dev ifAddr ||| timaRequest (s.dev tmaAddr) (s.dev timaAddr) n ∧
      ((timaTick th)^[n] s).dev tmaAddr = s.dev tmaAddr := by
  induction n with
  | zero => simp [timaRequest_zero]
  | succ n ih =>
    obtain ⟨hacc, htima, hif, htma⟩ := ih
    rw [Function.iterate_succ_apply', Function.iterate_succ_apply', timaRequest_succ, ← BitVec.or_assoc]
    obtain ⟨htima', hif'⟩ := timaTick_registers th ((timaTick th)^[n] s)
    rw [htma, htima] at htima'
    rw [hif, htima] at hif'
    refine ⟨?_, htima', hif', ?_⟩
    · rw [timaTick_eq]
      dsimp only
      rw [hacc, Nat.succ_mul]
      omega
    · rw [timaTick_dev_ne _ _ (by decide) (by decide), htma]

theorem threshold_eq_timaThreshold : ∀ tac : Byte, threshold tac = timaThreshold tac := by decide

/-- The counter enabled. -/
theorem timerStep_counter {s : State} (h : timaEnabled (s.dev tacAddr) = true) (c n : Nat)
    (hn : n = timaTicks (timaThreshold (s.dev tacAddr)) (s.timaAcc + c)) :
    (timerStep c s).timaAcc = s.timaAcc + c - n * timaThreshold (s.dev tacAddr) ∧
      (timerStep c s).dev timaAddr = (timaNext (s.dev tmaAddr))^[n] (s.dev timaAddr) ∧
      (timerStep c s).dev ifAddr = s.dev ifAddr ||| timaRequest (s.dev tmaAddr) (s.dev timaAddr) n := by
  obtain ⟨hacc, htima, hif, -⟩ := timaTick_iterate (timaThreshold (s.dev tacAddr)) n { divStep c s with timaAcc := s.timaAcc + c }
  have hdev : ∀ k, k ≠ divAddr → ({ divStep c s with timaAcc := s.timaAcc + c } : State).dev k = s.dev k := fun k => divStep_dev_ne c s
  rw [hdev _ (by decide), hdev _ (by decide)] at htima
  rw [hdev _ (by decide), hdev _ (by decide), hdev _ (by decide)] at hif
  rw [timerStep_of_enabled h, ← hn]
  exact ⟨hacc, htima, hif⟩

/-- Settles O54: disabled, the divider alone runs; enabled, the counter is its iterated tick. -/
theorem counterCounts : Obligations.CounterCounts := by
  refine fun s c => ⟨fun hoff => ?_, fun n hon hn => ?_⟩
  · rw [timerStep_of_disabled hoff]
    exact ⟨by rw [divStep_eq], divStep_dev_ne c s (by decide), divStep_dev_ne c s (by decide)⟩
  · rw [threshold_eq_timaThreshold] at hn ⊢
    obtain ⟨hacc, htima, hif⟩ := timerStep_counter hon c n hn
    have hle : n * timaThreshold (s.byte 0xFF07) ≤ s.timaAcc + c :=
      (hn ▸ Nat.div_mul_le_self _ _).trans (Nat.sub_le _ _)
    refine ⟨?_, htima, fun hover => ?_, fun hnone => ?_⟩
    · rw [hacc]
      exact Nat.sub_add_cancel hle
    · exact hif.trans (congrArg _ (if_pos hover))
    · refine hif.trans ((congrArg _ (if_neg ?_)).trans (BitVec.or_zero))
      rintro ⟨k, hk, hk'⟩
      exact hnone k hk hk'

end Sys2Proof.Machine
end

section
/-! PROOFS. Rendering (60_exceptions.md R335, R336): a line is drawn column after column, each background column at its own place; what is drawn
depends on VRAM and the graphics registers alone. -/

namespace Sys2Proof.Machine

open Sys2Proof.Claims

/-! ### The columns of a line -/

/-- Draws column `col` of the background: pixel `col % 8` of tile column `col / 8`. -/
def drawColumn (s : State) (col : Nat) : State := drawPixel s (col / 8) (col % 8)

/-- The colour of column `col` of the background row the line shows (R335). -/
def columnColour (s : State) (col : Nat) : Rgb := Config.shadeRgb (bgShade s (col / 8) (col % 8))

theorem drawColumn_tile (s : State) (tc : Nat) {px : Nat} (hpx : px < 8) : drawColumn s (tc * 8 + px) = drawPixel s tc px := by
  rw [drawColumn, show (tc * 8 + px) / 8 = tc by omega, show (tc * 8 + px) % 8 = px by omega]

/-- The columns in the order of R335: tile column by tile column, each of 8 pixels. -/
def bgColumns : List Nat := (List.range 32).flatMap fun tc => (List.range 8).map fun px => tc * 8 + px

theorem mem_bgColumns_iff (col : Nat) : col ∈ bgColumns ↔ col < 256 := by
  simp only [bgColumns, List.mem_flatMap, List.mem_map, List.mem_range]
  constructor
  · rintro ⟨tc, htc, px, hpx, rfl⟩
    omega
  · exact fun h => ⟨col / 8, by omega, col % 8, by omega, by omega⟩

theorem renderLine_eq_foldl_columns (s : State) : renderLine s = if bgEnabled (s.dev lcdcAddr) then bgColumns.foldl drawColumn s else s := by
  have htile : ∀ (t : State) (tc : Nat),
      (List.range 8).foldl (fun u px => drawPixel u tc px) t = ((List.range 8).map fun px => tc * 8 + px).foldl drawColumn t := fun t tc => by
    rw [List.foldl_map]
    exact List.foldl_ext _ _ _ fun u px hpx => (drawColumn_tile u tc (List.mem_range.1 hpx)).symm
  rw [bgColumns, List.foldl_flatMap, renderLine]
  simp only [htile]

theorem drawColumn_eq (s : State) (col : Nat) : drawColumn s col = { s with fb := (drawColumn s col).fb } := drawPixel_eq s _ _

theorem drawColumn_dev (s : State) (col k : Nat) : (drawColumn s col).dev k = s.dev k := drawPixel_dev s _ _ k

theorem columnColour_drawColumn (s : State) (c col : Nat) : columnColour (drawColumn s c) col = columnColour s col := by
  rw [drawColumn_eq]
  rfl

/-- A column lands at its place on the screen, if it has one there, and nowhere else. -/
theorem drawColumn_pixel (s : State) (col y : Nat) {x : Nat} (hx : x < 160) :
    (drawColumn s col).fb.pixel y x =
      if y = (s.dev lyAddr).toNat ∧ x + (s.dev scxAddr).toNat = col then columnColour s col else s.fb.pixel y x := by
  unfold drawColumn drawPixel
  rw [show col / 8 * 8 + col % 8 = col by omega]
  dsimp only
  split
  · next hscreen =>
    rw [Picture.pixel_setPixel _ _ _ _ _ _ (by omega) hx]
    exact if_congr (and_congr_right fun _ => by omega) rfl rfl
  · next hscreen =>
    rw [if_neg]
    rintro ⟨-, hcol⟩
    omega

/-- After a run of columns a pixel has the colour of its own column, if that is among them. -/
theorem foldl_drawColumn_pixel (cols : List Nat) (s : State) (y : Nat) {x : Nat} (hx : x < 160) :
    (cols.foldl drawColumn s).fb.pixel y x =
      if y = (s.dev lyAddr).toNat ∧ x + (s.dev scxAddr).toNat ∈ cols then columnColour s (x + (s.dev scxAddr).toNat)
      else s.fb.pixel y x := by
  induction cols generalizing s with
  | nil => simp
  | cons col cols ih =>
    rw [List.foldl_cons, ih, drawColumn_dev, drawColumn_dev, columnColour_drawColumn, drawColumn_pixel s col y hx]
    by_cases hmem : y = (s.dev lyAddr).toNat ∧ x + (s.dev scxAddr).toNat ∈ cols
    · rw [if_pos hmem, if_pos ⟨hmem.1, List.mem_cons_of_mem _ hmem.2⟩]
    · rw [if_neg hmem]
      by_cases hcol : y = (s.dev lyAddr).toNat ∧ x + (s.dev scxAddr).toNat = col
      · rw [if_pos hcol, if_pos ⟨hcol.1, hcol.2 ▸ List.mem_cons_self⟩, hcol.2]
      · rw [if_neg hcol, if_neg]
        rintro ⟨hy, hx'⟩
        exact (List.mem_cons.1 hx').elim (fun h => hcol ⟨hy, h⟩) fun h => hmem ⟨hy, h⟩

/-! ### What a column reads -/

/-- The tile map lies in VRAM. -/
theorem tileMap_range (lcdc : Byte) {row tc : Nat} (hrow : row < 256) (htc : tc < 32) :
    0x8000 ≤ tileMapBase lcdc + row / 8 * 32 + tc ∧ tileMapBase lcdc + row / 8 * 32 + tc < 0xA000 := by
  unfold tileMapBase
  split <;> omega

/-- A tile's address, over the integers. -/
theorem tileBase_cast (lcdc idx : Byte) :
    (tileBase lcdc idx : Int) = if lcdc.getLsbD 4 then (0x8000 + idx.toNat * 16 : Int) else 0x9000 + idx.toInt * 16 := by
  have hlo := idx.le_toInt
  unfold tileBase
  split
  · push_cast
    rfl
  · exact Int.toNat_of_nonneg (by omega)

/-- The tiles lie in VRAM. -/
theorem tileBase_range (lcdc idx : Byte) : 0x8000 ≤ tileBase lcdc idx ∧ tileBase lcdc idx + 15 < 0xA000 := by
  have hcast := tileBase_cast lcdc idx
  have hlo := idx.le_toInt
  have hhi := idx.toInt_lt
  have hidx := idx.isLt
  split at hcast <;> omega

theorem bgRow_lt (ly scy : Byte) : bgRow ly scy < 256 := Nat.mod_lt _ (by decide)

/-- Every cell but those the timer writes is as in the other state; the graphics unit draws from no others. -/
def SameToGraphics (s t : State) : Prop := ∀ k, k ≠ divAddr → k ≠ timaAddr → k ≠ ifAddr → t.dev k = s.dev k

/-- The colour of a column is told by the cells of VRAM and the graphics registers, none of them the timer's or IF. -/
theorem columnColour_congr {s t : State} (hdev : SameToGraphics s t) {col : Nat} (hcol : col < 256) :
    columnColour t col = columnColour s col := by
  have hvram : ∀ k, k < 0xA000 → t.dev k = s.dev k := fun k hk =>
    hdev k (by unfold divAddr; omega) (by unfold timaAddr; omega) (by unfold ifAddr; omega)
  unfold columnColour bgShade
  rw [hdev lyAddr (by decide) (by decide) (by decide), hdev scyAddr (by decide) (by decide) (by decide),
    hdev lcdcAddr (by decide) (by decide) (by decide), hdev bgpAddr (by decide) (by decide) (by decide)]
  dsimp only
  have hidx := (tileMap_range (s.dev lcdcAddr) (bgRow_lt (s.dev lyAddr) (s.dev scyAddr)) (show col / 8 < 32 by omega)).2
  rw [hvram _ hidx]
  have hplane := (tileBase_range (s.dev lcdcAddr)
    (s.dev (tileMapBase (s.dev lcdcAddr) + bgRow (s.dev lyAddr) (s.dev scyAddr) / 8 * 32 + col / 8))).2
  rw [hvram _ (by omega), hvram _ (by omega)]

theorem drawColumn_fb_congr {s t : State} (hdev : SameToGraphics s t) (hfb : t.fb = s.fb) {col : Nat} (hcol : col < 256) :
    (drawColumn t col).fb = (drawColumn s col).fb := by
  have hcolour := columnColour_congr hdev hcol
  unfold columnColour at hcolour
  unfold drawColumn drawPixel
  rw [hdev lyAddr (by decide) (by decide) (by decide), hdev scxAddr (by decide) (by decide) (by decide), hfb, hcolour]
  dsimp only
  split
  · rfl
  · exact hfb

/-- What rendering draws is told by VRAM, the graphics registers and the framebuffer. -/
theorem renderLine_fb_congr {s t : State} (hdev : SameToGraphics s t) (hfb : t.fb = s.fb) :
    (renderLine t).fb = (renderLine s).fb := by
  have hfold : ∀ cols : List Nat, (∀ col ∈ cols, col < 256) → (cols.foldl drawColumn t).fb = (cols.foldl drawColumn s).fb := by
    intro cols hcols
    induction cols generalizing s t with
    | nil => exact hfb
    | cons col cols ih =>
      obtain ⟨hcol, hrest⟩ := List.forall_mem_cons.1 hcols
      refine ih (fun k hdiv htima hif => ?_) (drawColumn_fb_congr hdev hfb hcol) hrest
      rw [drawColumn_dev, drawColumn_dev, hdev k hdiv htima hif]
  rw [renderLine_eq_foldl_columns, renderLine_eq_foldl_columns, hdev lcdcAddr (by decide) (by decide) (by decide)]
  split
  · exact hfold _ fun col => (mem_bgColumns_iff col).1
  · exact hfb

/-! ### The background row -/

theorem State.byte_ofNat (s : State) {k : Nat} (hk : k < 0xE000) : s.byte (BitVec.ofNat 16 k) = s.dev k := by
  rw [State.byte_eq_dev, Memory.home_ofNat (.inl hk)]

theorem paletteShade_eq (bgp : Byte) (ci : Nat) : paletteShade bgp ci = BitVec.ofNat 2 (bgp.toNat / 4 ^ ci) := by
  rw [paletteShade, BitVec.extractLsb', Nat.shiftRight_eq_div_pow, Nat.pow_mul]

theorem colourIndex_eq (lo hi : Byte) (px : Nat) : colourIndex lo hi px = hi.toNat / 2 ^ (7 - px) % 2 * 2 + lo.toNat / 2 ^ (7 - px) % 2 := by
  rw [colourIndex, BitVec.getLsbD, BitVec.getLsbD, Nat.toNat_testBit, Nat.toNat_testBit, Nat.mul_comm]

/-- A byte of a tile, at the address as the claims write it. -/
theorem byte_tile (s : State) (lcdc idx : Byte) {k : Nat} (hk : k ≤ 15) :
    s.byte (BitVec.ofInt 16 ((if lcdc.getLsbD 4 then (0x8000 + idx.toNat * 16 : Int) else 0x9000 + idx.toInt * 16) + (k : Nat))) =
      s.dev (tileBase lcdc idx + k) := by
  have hrange := (tileBase_range lcdc idx).2
  rw [← tileBase_cast, ← Int.natCast_add, BitVec.ofInt_natCast, State.byte_ofNat s (by omega)]

/-- The colour as the claims write it, over numbers and addresses. -/
theorem bgColour_eq_columnColour (s : State) {col : Nat} (hcol : col < 256) : bgColour s col = columnColour s col := by
  have hrange := (tileMap_range (s.dev lcdcAddr) (bgRow_lt (s.dev lyAddr) (s.dev scyAddr)) (show col / 8 < 32 by omega)).2
  have hidx := s.byte_ofNat (hrange.trans (by decide))
  have hplane : ∀ idx, ∀ k ≤ 15, s.dev (tileBase (s.dev lcdcAddr) idx + k) = _ := fun idx k hk => (byte_tile s (s.dev lcdcAddr) idx hk).symm
  unfold columnColour bgShade
  dsimp only
  rw [paletteShade_eq, colourIndex_eq, Nat.add_assoc, hplane _ _ (by omega), hplane _ _ (by omega), ← hidx]
  rfl

/-- Settles O60: a rendered line is its 256 columns drawn in order, and a column's colour is `bgColour`. -/
theorem renderedLineIsTheBackgroundRow : Obligations.RenderedLineIsTheBackgroundRow := by
  refine fun s y x hx => ⟨?_, renderLine_eq s⟩
  rw [renderLine_eq_foldl_columns]
  split
  · next hon =>
    rw [foldl_drawColumn_pixel _ _ _ hx]
    by_cases hrow : y = (s.dev lyAddr).toNat ∧ x + (s.dev scxAddr).toNat < 256
    · obtain ⟨hy, hcol⟩ := hrow
      rw [if_pos ⟨hy, (mem_bgColumns_iff _).2 hcol⟩, ← bgColour_eq_columnColour s hcol]
      exact (if_pos ⟨hon, hy, hcol⟩).symm
    · rw [if_neg (by rwa [mem_bgColumns_iff])]
      exact (if_neg fun h => hrow h.2).symm
  · next hoff => exact (if_neg fun h => hoff h.1).symm

end Sys2Proof.Machine
end

section
/-! PROOFS. The graphics unit's timing (60_exceptions.md R331 to R334, R337, R338): one equation per transition, a step of one transition, and, by
induction over the transitions of a step, the place in the frame and the frames delivered. -/

namespace Sys2Proof.Machine

open Sys2Proof.Claims

/-! ### The transitions -/

theorem ly_succ_eq_144_iff : ∀ v : Byte, v + 1 = 144 ↔ v.toNat = 143 := by decide

theorem ly_succ_eq_154_iff : ∀ v : Byte, v + 1 = 154 ↔ v.toNat = 153 := by decide

/-- The state at dot `d` of mode `m`. -/
def State.enter (s : State) (m : GfxMode) (d : Nat) : State := { s with mode := m, dot := d }

@[simp] theorem State.enter_mode (s : State) (m : GfxMode) (d : Nat) : (s.enter m d).mode = m := rfl
@[simp] theorem State.enter_dot (s : State) (m : GfxMode) (d : Nat) : (s.enter m d).dot = d := rfl
@[simp] theorem State.enter_fb (s : State) (m : GfxMode) (d : Nat) : (s.enter m d).fb = s.fb := rfl
@[simp] theorem State.enter_frames (s : State) (m : GfxMode) (d : Nat) : (s.enter m d).frames = s.frames := rfl
@[simp] theorem State.enter_mem (s : State) (m : GfxMode) (d : Nat) : (s.enter m d).mem = s.mem := rfl
@[simp] theorem State.enter_dev (s : State) (m : GfxMode) (d k : Nat) : (s.enter m d).dev k = s.dev k := rfl
@[simp] theorem State.enter_byte (s : State) (m : GfxMode) (d : Nat) (a : Word) : (s.enter m d).byte a = s.byte a := rfl
@[simp] theorem State.enter_enter (s : State) (m m' : GfxMode) (d d' : Nat) : (s.enter m d).enter m' d' = s.enter m' d' := rfl

/-- Rendering looks neither at the mode nor at the dot counter. -/
theorem renderLine_enter (s : State) (m : GfxMode) (d : Nat) : renderLine (s.enter m d) = (renderLine s).enter m d := by
  have hfb : (renderLine (s.enter m d)).fb = (renderLine s).fb := renderLine_fb_congr (fun _ _ _ _ => rfl) rfl
  rw [renderLine_eq (s.enter m d), hfb, renderLine_eq s]
  rfl

theorem gfxTransition_oamScan {s : State} (hmode : s.mode = .oamScan) :
    gfxTransition s = s.enter .pixelTransfer (s.dot - s.mode.dur) := by
  simp only [gfxTransition, hmode, State.enter]

theorem gfxTransition_pixelTransfer {s : State} (hmode : s.mode = .pixelTransfer) :
    gfxTransition s = (renderLine s).enter .hBlank (s.dot - s.mode.dur) := by
  have hrender := renderLine_enter s s.mode (s.dot - s.mode.dur)
  unfold State.enter at hrender
  unfold gfxTransition
  dsimp only
  rw [hrender]
  simp only [hmode, State.enter]

/-- HBlank of a line but the last visible one. -/
theorem gfxTransition_hBlank {s : State} (hmode : s.mode = .hBlank) (hly : (s.dev lyAddr).toNat ≠ 143) :
    gfxTransition s = (s.devWrite lyAddr (s.dev lyAddr + 1)).enter .oamScan (s.dot - s.mode.dur) := by
  unfold gfxTransition
  dsimp only
  rw [hmode]
  exact if_neg ((ly_succ_eq_144_iff _).not.2 hly)

/-- HBlank of line 143: the request, the delivery and VBlank. -/
theorem gfxTransition_hBlank_last {s : State} (hmode : s.mode = .hBlank) (hly : (s.dev lyAddr).toNat = 143) :
    gfxTransition s =
      (deliverFrame ((s.devWrite lyAddr (s.dev lyAddr + 1)).devWrite ifAddr (s.dev ifAddr ||| 0x01))).enter .vBlank (s.dot - s.mode.dur) := by
  have hif : (s.devWrite lyAddr (s.dev lyAddr + 1)).dev ifAddr = s.dev ifAddr := by rw [State.dev_devWrite, if_neg (by decide)]
  unfold gfxTransition
  dsimp only
  rw [← hif]
  rw [hmode]
  exact if_pos ((ly_succ_eq_144_iff _).2 hly)

theorem gfxTransition_vBlank {s : State} (hmode : s.mode = .vBlank) (hly : (s.dev lyAddr).toNat ≠ 153) :
    gfxTransition s = (s.devWrite lyAddr (s.dev lyAddr + 1)).enter .vBlank (s.dot - s.mode.dur) := by
  unfold gfxTransition
  dsimp only
  rw [hmode]
  exact if_neg ((ly_succ_eq_154_iff _).not.2 hly)

/-- Line 153 is the last of the frame. -/
theorem gfxTransition_vBlank_last {s : State} (hmode : s.mode = .vBlank) (hly : (s.dev lyAddr).toNat = 153) :
    gfxTransition s = (s.devWrite lyAddr 0).enter .oamScan (s.dot - s.mode.dur) := by
  unfold gfxTransition
  dsimp only
  rw [hmode]
  exact if_pos ((ly_succ_eq_154_iff _).2 hly)

/-! ### A step of one transition -/

theorem gfxStep_eq_gfxLoop (c : Nat) (s : State) : gfxStep c s = gfxLoop (s.dot + c) (s.enter s.mode (s.dot + c)) := rfl

theorem gfxStep_of_lt {s : State} {c : Nat} (h : s.dot + c < s.mode.dur) : gfxStep c s = { s with dot := s.dot + c } := gfxLoop_done h

/-- A step that ends in the next mode is one transition, with `r` dots left over. -/
theorem gfxStep_of_turn {s t : State} {m : GfxMode} {c r : Nat} (hr : s.dot + c = s.mode.dur + r)
    (hturn : gfxTransition (s.enter s.mode (s.dot + c)) = t.enter m (s.dot + c - s.mode.dur)) (hlt : r < m.dur) :
    gfxStep c s = t.enter m r := by
  have hpos := s.mode.dur_pos
  obtain ⟨n, hn⟩ : ∃ n, s.dot + c = n + 1 := ⟨s.dot + c - 1, by omega⟩
  rw [show s.dot + c - s.mode.dur = r by omega] at hturn
  calc gfxStep c s = gfxLoop (n + 1) (s.enter s.mode (s.dot + c)) := by rw [← hn]; rfl
    _ = gfxLoop n (t.enter m r) := by rw [gfxLoop_turn (show s.mode.dur ≤ s.dot + c by omega), hturn]
    _ = t.enter m r := gfxLoop_done hlt

/-- Settles O56: no transition, or one, out of OAM-scan or out of Pixel-Transfer. -/
theorem modesOfAVisibleLine : Obligations.ModesOfAVisibleLine := by
  refine fun s c => ⟨gfxStep_of_lt, fun r hmode hr hlt => ?_, fun r hmode hr hlt => ?_⟩
  · exact gfxStep_of_turn (by rw [hmode]; exact hr) (gfxTransition_oamScan (s := s.enter s.mode (s.dot + c)) hmode) hlt
  · have hturn := gfxTransition_pixelTransfer (s := s.enter s.mode (s.dot + c)) hmode
    rw [renderLine_enter] at hturn
    exact gfxStep_of_turn (by rw [hmode]; exact hr) hturn hlt

@[simp] theorem deliverFrame_byte (s : State) (a : Word) : (deliverFrame s).byte a = s.byte a := rfl

@[simp] theorem deliverFrame_dev (s : State) (k : Nat) : (deliverFrame s).dev k = s.dev k := rfl

/-- The cells of LY and IF are those of their addresses alone. -/
theorem byte_devWrite_ly (s : State) (v : Byte) (a : Word) : (s.devWrite lyAddr v).byte a = if a = 0xFF44 then v else s.byte a :=
  (s.byte_devWrite lyAddr v a).trans (if_congr (Memory.home_eq_toNat_iff (k := 0xFF44) (by decide) a) rfl rfl)

theorem byte_devWrite_if (s : State) (v : Byte) (a : Word) : (s.devWrite ifAddr v).byte a = if a = 0xFF0F then v else s.byte a :=
  (s.byte_devWrite ifAddr v a).trans (if_congr (Memory.home_eq_toNat_iff (k := 0xFF0F) (by decide) a) rfl rfl)

/-- A step of the graphics unit changes no register, no accumulator and no other state of the CPU. -/
theorem gfxStep_eq (c : Nat) (s : State) :
    gfxStep c s =
      { s with
        dot := (gfxStep c s).dot, mode := (gfxStep c s).mode, mem := (gfxStep c s).mem, fb := (gfxStep c s).fb,
        frames := (gfxStep c s).frames } := by
  unfold gfxStep
  rw [gfxLoop_eq]

/-- The state after a step that ends at dot `r` of mode `m`, but for memory. -/
theorem gfxStep_eq_of_enter {s t : State} {m : GfxMode} {c r : Nat} (h : gfxStep c s = t.enter m r) :
    gfxStep c s = { s with mem := (gfxStep c s).mem, mode := m, dot := r, fb := t.fb, frames := t.frames } := by
  have hmode : (gfxStep c s).mode = m := by rw [h]; rfl
  have hdot : (gfxStep c s).dot = r := by rw [h]; rfl
  have hfb : (gfxStep c s).fb = t.fb := by rw [h]; rfl
  have hframes : (gfxStep c s).frames = t.frames := by rw [h]; rfl
  rw [← hmode, ← hdot, ← hfb, ← hframes]
  exact gfxStep_eq c s

/-- The end of HBlank (R333). -/
theorem gfxStep_hBlankEnd {s : State} {c r : Nat} (hmode : s.mode = .hBlank) (hr : s.dot + c = 204 + r) (hlt : r < 80) :
    ((s.byte 0xFF44).toNat = 143 →
      gfxStep c s = (deliverFrame ((s.devWrite lyAddr (s.dev lyAddr + 1)).devWrite ifAddr (s.dev ifAddr ||| 0x01))).enter .vBlank r) ∧
    ((s.byte 0xFF44).toNat ≠ 143 → gfxStep c s = (s.devWrite lyAddr (s.dev lyAddr + 1)).enter .oamScan r) := by
  have hdur : s.dot + c = s.mode.dur + r := by rw [hmode]; exact hr
  exact ⟨fun hly => gfxStep_of_turn hdur (gfxTransition_hBlank_last (s := s.enter s.mode (s.dot + c)) hmode hly) (hlt.trans (by decide)),
    fun hly => gfxStep_of_turn hdur (gfxTransition_hBlank (s := s.enter s.mode (s.dot + c)) hmode hly) hlt⟩

/-- The end of a line of VBlank (R334). -/
theorem gfxStep_vBlankLineEnd {s : State} {c r : Nat} (hmode : s.mode = .vBlank) (hr : s.dot + c = 456 + r) (hlt : r < 80) :
    ((s.byte 0xFF44).toNat = 153 → gfxStep c s = (s.devWrite lyAddr 0).enter .oamScan r) ∧
    ((s.byte 0xFF44).toNat ≠ 153 → gfxStep c s = (s.devWrite lyAddr (s.dev lyAddr + 1)).enter .vBlank r) := by
  have hdur : s.dot + c = s.mode.dur + r := by rw [hmode]; exact hr
  exact ⟨fun hly => gfxStep_of_turn hdur (gfxTransition_vBlank_last (s := s.enter s.mode (s.dot + c)) hmode hly) hlt,
    fun hly => gfxStep_of_turn hdur (gfxTransition_vBlank (s := s.enter s.mode (s.dot + c)) hmode hly) (hlt.trans (by decide))⟩

/-- A step that stores in LY alone. -/
theorem gfxStep_byte_of_ly {s : State} {v : Byte} {m : GfxMode} {c r : Nat} (h : gfxStep c s = (s.devWrite lyAddr v).enter m r) (a : Word) :
    (gfxStep c s).byte a = if a = 0xFF44 then v else s.byte a := by
  rw [h, State.enter_byte, byte_devWrite_ly]

/-- Settles O57: each end of a line is one transition, and its stores are in LY and IF alone. -/
theorem endsOfLines : Obligations.EndsOfLines := by
  refine ⟨fun s c r hmode _ hr hlt => ?_, fun s c r hmode _ _ hr hlt => ?_⟩
  · obtain ⟨hlast, hother⟩ := gfxStep_hBlankEnd hmode hr hlt
    by_cases h143 : (s.byte 0xFF44).toNat = 143
    · have hbyte : ∀ a, (gfxStep c s).byte a =
          if a = 0xFF0F then s.dev ifAddr ||| 0x01 else if a = 0xFF44 then s.dev lyAddr + 1 else s.byte a := fun a => by
        rw [hlast h143, State.enter_byte, deliverFrame_byte, byte_devWrite_if, byte_devWrite_ly]
      have hfb : (gfxStep c s).fb = [] := by rw [hlast h143]; rfl
      refine ⟨hbyte 0xFF44, fun a hly' hif => ?_, fun _ => ⟨hbyte 0xFF0F, fun y x => ?_, ?_⟩, fun h => absurd h143 h⟩
      · rw [hbyte, if_neg hif, if_neg hly']
      · rw [hfb]
        rfl
      · rw [hfb]
        exact gfxStep_eq_of_enter (hlast h143)
    · have hbyte := gfxStep_byte_of_ly (hother h143)
      exact ⟨hbyte 0xFF44, fun a hly' _ => (hbyte a).trans (if_neg hly'), fun h => absurd h h143,
        fun _ => ⟨hbyte 0xFF0F, gfxStep_eq_of_enter (t := s.devWrite _ _) (hother h143)⟩⟩
  · obtain ⟨hlast, hother⟩ := gfxStep_vBlankLineEnd hmode hr hlt
    by_cases h153 : (s.byte 0xFF44).toNat = 153
    · have hbyte := gfxStep_byte_of_ly (hlast h153)
      exact ⟨fun a hly => (hbyte a).trans (if_neg hly), fun _ => ⟨hbyte 0xFF44, gfxStep_eq_of_enter (t := s.devWrite _ _) (hlast h153)⟩,
        fun h => absurd h153 h⟩
    · have hbyte := gfxStep_byte_of_ly (hother h153)
      exact ⟨fun a hly => (hbyte a).trans (if_neg hly), fun h => absurd h h153,
        fun _ => ⟨hbyte 0xFF44, gfxStep_eq_of_enter (t := s.devWrite _ _) (hother h153)⟩⟩

/-! ### The place in the frame -/

/-- Where in the frame the mode began: `framePos` without the dot counter. -/
def modePos (s : State) : Nat := (s.dev lyAddr).toNat * 456 + modeStart s.mode

theorem framePos_eq (s : State) : framePos s = modePos s + s.dot := rfl

/-- The frames the dots counted so far will still bring: line 144 begins at dot 65664, 4560 dots before the frame's end. -/
def pendingFrames (s : State) : Nat := (framePos s + 4560) / 70224 - (modePos s + 4560) / 70224

theorem renderLine_dev (s : State) (k : Nat) : (renderLine s).dev k = s.dev k := by
  rw [renderLine_eq]
  rfl

theorem modePos_enter (s : State) (m : GfxMode) (d : Nat) : modePos (s.enter m d) = (s.dev lyAddr).toNat * 456 + modeStart m := rfl

theorem modePos_enter_ly (s : State) (v : Byte) (m : GfxMode) (d : Nat) :
    modePos ((s.devWrite lyAddr v).enter m d) = v.toNat * 456 + modeStart m := by
  rw [modePos_enter, State.dev_devWrite, if_pos rfl]

theorem dev_if_devWrite_ly (s : State) (v : Byte) : (s.devWrite lyAddr v).dev ifAddr = s.dev ifAddr := by
  rw [State.dev_devWrite, if_neg (by decide)]

/-- Where a mode begins in the frame, and that line 144 begins no mode but VBlank (R331). -/
theorem modePos_of_mode {s : State} (h : LoopInv s) :
    (s.mode = .vBlank ∧ 144 ≤ (s.dev lyAddr).toNat ∧ (s.dev lyAddr).toNat ≤ 153 ∧ modePos s = (s.dev lyAddr).toNat * 456) ∨
      (s.mode ≠ .vBlank ∧ (s.dev lyAddr).toNat ≤ 143 ∧ modePos s = (s.dev lyAddr).toNat * 456 + modeStart s.mode ∧
        modeStart s.mode + s.mode.dur ≤ 456) := by
  have hle := h.ly_range
  have hvb := h.vblank_lines
  by_cases hmode : s.mode = .vBlank
  · exact .inl ⟨hmode, hvb.1 hmode, hle, by rw [modePos, hmode, modeStart, Nat.add_zero]⟩
  · refine .inr ⟨hmode, Nat.le_of_lt_succ (h.line_lt hmode), rfl, ?_⟩
    cases hm : s.mode
    case vBlank => exact absurd hm hmode
    all_goals decide

/-- Inside a mode no frame is left to deliver. -/
theorem pendingFrames_eq_zero {s : State} (h : LoopInv s) (hdot : s.dot < s.mode.dur) : pendingFrames s = 0 := by
  rw [pendingFrames, framePos_eq]
  obtain ⟨hmode, hlo, hhi, hpos⟩ | ⟨-, hhi, hpos, hdur⟩ := modePos_of_mode h
  · rw [hmode] at hdot
    change s.dot < 456 at hdot
    omega
  · omega

/-- What a transition does for the frames: it delivers none, or the one its dots were to bring, with the request. -/
def FrameTurn (s t : State) : Prop :=
  (pendingFrames s = pendingFrames t ∧ t.frames.length = s.frames.length ∧ t.dev ifAddr = s.dev ifAddr) ∨
    (pendingFrames s = pendingFrames t + 1 ∧ t.frames.length = s.frames.length + 1 ∧ t.dev ifAddr = s.dev ifAddr ||| 0x01)

/-- A transition keeps the place in the frame, modulo a frame, and delivers a frame where its place says so. -/
theorem gfxTransition_frame {s : State} (h : LoopInv s) (hdur : s.mode.dur ≤ s.dot) :
    framePos (gfxTransition s) % 70224 = framePos s % 70224 ∧ FrameTurn s (gfxTransition s) := by
  have hle := h.ly_range
  have hvb := h.vblank_lines
  have hpos : modePos s = (s.dev lyAddr).toNat * 456 + modeStart s.mode := rfl
  have hsucc : (s.dev lyAddr + 1).toNat = (s.dev lyAddr).toNat + 1 := by bv_omega
  have hdot : (gfxTransition s).dot = s.dot - s.mode.dur := by rw [gfxTransition_eq]
  unfold FrameTurn pendingFrames
  simp only [framePos_eq, hdot]
  cases hmode : s.mode
  all_goals
    rw [hmode] at hvb hpos hdur
    simp only [modeStart, GfxMode.dur, reduceCtorEq, true_iff, false_iff] at hvb hpos hdur ⊢
  case oamScan =>
    rw [gfxTransition_oamScan hmode, modePos_enter, modeStart]
    exact ⟨by omega, .inl ⟨by omega, rfl, rfl⟩⟩
  case pixelTransfer =>
    rw [gfxTransition_pixelTransfer hmode, modePos_enter, modeStart, renderLine_dev]
    refine ⟨by omega, .inl ⟨by omega, ?_, renderLine_dev s ifAddr⟩⟩
    rw [renderLine_eq]
    rfl
  case hBlank =>
    by_cases hly : (s.dev lyAddr).toNat = 143
    · have hpos' : modePos (gfxTransition s) = 65664 := by
        rw [gfxTransition_hBlank_last hmode hly, modePos_enter, deliverFrame_dev, State.dev_devWrite, if_neg (by decide), State.dev_devWrite,
          if_pos rfl, hsucc, hly, modeStart]
      rw [hpos', gfxTransition_hBlank_last hmode hly]
      refine ⟨by omega, .inr ⟨by omega, by simp [deliverFrame], ?_⟩⟩
      rw [State.enter_dev, deliverFrame_dev, State.dev_devWrite, if_pos rfl]
    · rw [gfxTransition_hBlank hmode hly, modePos_enter_ly, modeStart, hsucc]
      exact ⟨by omega, .inl ⟨by omega, rfl, dev_if_devWrite_ly s _⟩⟩
  case vBlank =>
    by_cases hly : (s.dev lyAddr).toNat = 153
    · rw [gfxTransition_vBlank_last hmode hly, modePos_enter_ly, modeStart, show (0 : Byte).toNat = 0 from rfl]
      exact ⟨by omega, .inl ⟨by omega, rfl, dev_if_devWrite_ly s 0⟩⟩
    · rw [gfxTransition_vBlank hmode hly, modePos_enter_ly, modeStart, hsucc]
      exact ⟨by omega, .inl ⟨by omega, rfl, dev_if_devWrite_ly s _⟩⟩

/-- The place in the frame after any number of transitions, modulo a frame. -/
theorem gfxLoop_framePos (n : Nat) {s : State} (h : LoopInv s) : framePos (gfxLoop n s) % 70224 = framePos s % 70224 := by
  induction n generalizing s with
  | zero => rfl
  | succ n ih =>
    rw [gfxLoop]
    split
    · next hdur => rw [ih (gfxTransition_loopInv h), (gfxTransition_frame h hdur).1]
    · rfl

/-- The frames that came and the request they raised: as many as the dots were to bring. -/
def FramesCame (s t : State) (n : Nat) : Prop :=
  t.frames.length = s.frames.length + n ∧ (n = 0 → t.dev ifAddr = s.dev ifAddr) ∧ (0 < n → t.dev ifAddr = s.dev ifAddr ||| 0x01)

/-- A turn's frame, if it brings one, and then those of the rest of the loop. -/
theorem FrameTurn.framesCame {s t u : State} (h : FrameTurn s t) (hrest : FramesCame t u (pendingFrames t)) :
    FramesCame s u (pendingFrames s) := by
  obtain ⟨hframes, hnone, hsome⟩ := hrest
  obtain ⟨hpending, hlength, hif⟩ | ⟨hpending, hlength, hif⟩ := h
  · rw [hlength] at hframes
    rw [hif] at hnone hsome
    rw [hpending]
    exact ⟨hframes, hnone, hsome⟩
  · refine ⟨by omega, fun h0 => absurd h0 (by omega), fun _ => ?_⟩
    obtain h0 | hpos := Nat.eq_zero_or_pos (pendingFrames t)
    · rw [hnone h0, hif]
    · rw [hsome hpos, hif, BitVec.or_assoc, BitVec.or_self]

/-- With the dot counter as fuel the loop brings the frames its dots were to bring. -/
theorem gfxLoop_framesCame (n : Nat) {s : State} (h : LoopInv s) (hfuel : s.dot ≤ n) : FramesCame s (gfxLoop n s) (pendingFrames s) := by
  have hdone : ∀ {t : State}, LoopInv t → t.dot < t.mode.dur → FramesCame t t (pendingFrames t) := fun ht hlt => by
    rw [pendingFrames_eq_zero ht hlt]
    exact ⟨rfl, fun _ => rfl, fun h0 => absurd h0 (by decide)⟩
  have hpos := s.mode.dur_pos
  induction n generalizing s with
  | zero => exact hdone h (by omega)
  | succ n ih =>
    rw [gfxLoop]
    split
    · next hdur =>
      have hdot : (gfxTransition s).dot = s.dot - s.mode.dur := by rw [gfxTransition_eq]
      exact (gfxTransition_frame h hdur).2.framesCame (ih (gfxTransition_loopInv h) (by omega) (GfxMode.dur_pos _))
    · exact hdone h (by omega)

/-- Between steps the place in the frame is below a frame's length, and tells LY and mode. -/
theorem framePos_of_inv {s : State} (h : Inv s) :
    framePos s < 70224 ∧ (s.dev lyAddr).toNat = framePos s / 456 ∧ s.mode = modeAt (framePos s) := by
  obtain ⟨hloop, hdot, -, -⟩ := (inv_iff s).1 h
  rw [framePos_eq]
  obtain ⟨hmode, hlo, hhi, hpos⟩ | ⟨hmode, hhi, hpos, hdur⟩ := modePos_of_mode hloop
  · have hlt : s.dot < 456 := by rw [hmode] at hdot; exact hdot
    refine ⟨by omega, by omega, ?_⟩
    rw [hmode, modeAt, if_pos (by omega)]
  · refine ⟨by omega, by omega, ?_⟩
    have hline : ¬144 ≤ (modePos s + s.dot) / 456 := by omega
    have hin : (modePos s + s.dot) % 456 = modeStart s.mode + s.dot := by omega
    rw [modeAt, if_neg hline, hin]
    cases hm : s.mode
    case vBlank => exact absurd hm hmode
    all_goals
      simp only [hm, GfxMode.dur] at hdot
      rw [modeStart]
    case oamScan => rw [if_pos (by omega)]
    case pixelTransfer => rw [if_neg (by omega), if_pos (by omega)]
    case hBlank => rw [if_neg (by omega), if_neg (by omega)]

/-- A graphics step adds its dots to the place in the frame. -/
theorem gfxStep_framePos (c : Nat) {s : State} (h : Inv s) : framePos (gfxStep c s) = (framePos s + c) % 70224 := by
  obtain ⟨hloop, -⟩ := (inv_iff s).1 h
  have hstart : framePos (s.enter s.mode (s.dot + c)) = framePos s + c := (Nat.add_assoc (modePos s) s.dot c).symm
  rw [← Nat.mod_eq_of_lt (framePos_of_inv (gfxStep_inv c h)).1, ← hstart, gfxStep_eq_gfxLoop]
  exact gfxLoop_framePos _ (hloop.congr rfl rfl rfl rfl)

/-- Settles O58: the place after the step (`gfxStep_framePos`), which tells LY and mode (`framePos_of_inv`). -/
theorem framePositionAdvances : Obligations.FramePositionAdvances := by
  intro s c h
  obtain ⟨-, hly, hmode⟩ := framePos_of_inv (gfxStep_inv c h)
  rw [← gfxStep_framePos c h]
  exact ⟨rfl, hly, hmode⟩

theorem gfxTransition_dev_ne (s : State) {k : Nat} (hly : k ≠ lyAddr) (hif : k ≠ ifAddr) : (gfxTransition s).dev k = s.dev k := by
  have hline : ∀ v, (s.devWrite lyAddr v).dev k = s.dev k := fun v => by rw [State.dev_devWrite, if_neg hly]
  cases hmode : s.mode with
  | oamScan => rw [gfxTransition_oamScan hmode, State.enter_dev]
  | pixelTransfer => rw [gfxTransition_pixelTransfer hmode, State.enter_dev, renderLine_dev]
  | hBlank =>
    by_cases h143 : (s.dev lyAddr).toNat = 143
    · rw [gfxTransition_hBlank_last hmode h143, State.enter_dev, deliverFrame_dev, State.dev_devWrite, if_neg hif, hline]
    · rw [gfxTransition_hBlank hmode h143, State.enter_dev, hline]
  | vBlank =>
    by_cases h153 : (s.dev lyAddr).toNat = 153
    · rw [gfxTransition_vBlank_last hmode h153, State.enter_dev, hline]
    · rw [gfxTransition_vBlank hmode h153, State.enter_dev, hline]

theorem gfxLoop_dev_ne (n : Nat) (s : State) {k : Nat} (hly : k ≠ lyAddr) (hif : k ≠ ifAddr) : (gfxLoop n s).dev k = s.dev k := by
  induction n generalizing s with
  | zero => rfl
  | succ n ih =>
    rw [gfxLoop]
    split
    · rw [ih, gfxTransition_dev_ne s hly hif]
    · rfl

theorem gfxStep_dev_ne (c : Nat) (s : State) {k : Nat} (hly : k ≠ lyAddr) (hif : k ≠ ifAddr) : (gfxStep c s).dev k = s.dev k :=
  gfxLoop_dev_ne _ _ hly hif

/-- Settles O59: the step brings the frames its dots were to bring (`gfxLoop_framesCame`); none is left over from the mode it begins in. -/
theorem oneFrameForEvery70224Dots : Obligations.OneFrameForEvery70224Dots := by
  intro s c n h hn
  obtain ⟨hloop, hdot, -, -⟩ := (inv_iff s).1 h
  have hcame := gfxLoop_framesCame (s.dot + c) (s := s.enter s.mode (s.dot + c)) (hloop.congr rfl rfl rfl rfl) (Nat.le_refl _)
  have hpending : pendingFrames (s.enter s.mode (s.dot + c)) = n := by
    have hzero := pendingFrames_eq_zero hloop hdot
    have hpos := framePos_eq s
    rw [pendingFrames] at hzero
    change (modePos s + (s.dot + c) + 4560) / 70224 - (modePos s + 4560) / 70224 = n
    omega
  rw [hpending] at hcame
  obtain ⟨hframes, hnone, hsome⟩ := hcame
  exact ⟨hframes, hnone, hsome, fun a hly hif => gfxStep_dev_ne c s (Memory.home_ne_toNat (k := 0xFF44) (by decide) hly)
    (Memory.home_ne_toNat (k := 0xFF0F) (by decide) hif)⟩

end Sys2Proof.Machine
end

section
/-! PROOFS. The order of the timer and the graphics unit (70_reset_and_hazards.md R412): neither reads what the other writes, and in IF both only raise
requests. So each does the same after the other as alone, and memory in its canonical form is told by its bytes. -/

namespace Sys2Proof.Machine

open Sys2Proof.Claims

/-! ### The graphics unit on states it cannot tell apart -/

/-- A relation of memories that the graphics unit cannot tell apart, kept by its two stores: the line's number and the VBlank request. -/
structure GfxRel (R : List Host.Cell → List Host.Cell → Prop) : Prop where
  peek : ∀ {m n}, R m n → ∀ k, k ≠ divAddr → k ≠ timaAddr → k ≠ ifAddr → Memory.peek n k = Memory.peek m k
  line : ∀ {m n}, R m n → ∀ v, R (Memory.poke m lyAddr v) (Memory.poke n lyAddr v)
  request : ∀ {m n}, R m n →
    R (Memory.poke m ifAddr (Memory.peek m ifAddr ||| 0x01)) (Memory.poke n ifAddr (Memory.peek n ifAddr ||| 0x01))

theorem gfxRel_eq : GfxRel Eq where
  peek := by rintro m _ rfl _ _ _ _; rfl
  line := by rintro m _ rfl v; rfl
  request := by rintro m _ rfl; rfl

/-- Two states alike to the graphics unit, their memories by `R`. -/
structure GfxAlike (R : List Host.Cell → List Host.Cell → Prop) (s t : State) : Prop where
  mem : R s.mem t.mem
  mode : t.mode = s.mode
  dot : t.dot = s.dot
  fb : t.fb = s.fb
  frames : t.frames = s.frames

theorem GfxAlike.enter {R : List Host.Cell → List Host.Cell → Prop} {s t : State} (h : GfxAlike R s t) (m : GfxMode) (d : Nat) :
    GfxAlike R (s.enter m d) (t.enter m d) :=
  ⟨h.mem, rfl, rfl, h.fb, h.frames⟩

section

variable {R : List Host.Cell → List Host.Cell → Prop} (hR : GfxRel R) {s t : State}

include hR

theorem GfxAlike.line (h : GfxAlike R s t) (v : Byte) : GfxAlike R (s.devWrite lyAddr v) (t.devWrite lyAddr v) :=
  ⟨hR.line h.mem v, h.mode, h.dot, h.fb, h.frames⟩

theorem GfxAlike.render (h : GfxAlike R s t) : GfxAlike R (renderLine s) (renderLine t) := by
  have hfb := renderLine_fb_congr (hR.peek h.mem) h.fb
  rw [renderLine_eq s, renderLine_eq t]
  exact ⟨h.mem, h.mode, h.dot, hfb, h.frames⟩

theorem GfxAlike.deliver (h : GfxAlike R s t) :
    GfxAlike R (deliverFrame (s.devWrite ifAddr (s.dev ifAddr ||| 0x01))) (deliverFrame (t.devWrite ifAddr (t.dev ifAddr ||| 0x01))) :=
  ⟨hR.request h.mem, h.mode, h.dot, rfl, congrArg₂ (· ++ [·]) h.frames h.fb⟩

/-- A transition of each leaves them alike. -/
theorem GfxAlike.transition (h : GfxAlike R s t) : GfxAlike R (gfxTransition s) (gfxTransition t) := by
  have hly : t.dev lyAddr = s.dev lyAddr := hR.peek h.mem _ (by decide) (by decide) (by decide)
  have hdot : t.dot - t.mode.dur = s.dot - s.mode.dur := by rw [h.mode, h.dot]
  cases hmode : s.mode with
  | oamScan =>
    rw [gfxTransition_oamScan hmode, gfxTransition_oamScan (h.mode.trans hmode), hdot]
    exact h.enter _ _
  | pixelTransfer =>
    rw [gfxTransition_pixelTransfer hmode, gfxTransition_pixelTransfer (h.mode.trans hmode), hdot]
    exact (h.render hR).enter _ _
  | hBlank =>
    by_cases h143 : (s.dev lyAddr).toNat = 143
    · rw [gfxTransition_hBlank_last hmode h143, gfxTransition_hBlank_last (h.mode.trans hmode) (hly ▸ h143), hdot,
        ← dev_if_devWrite_ly s (s.dev lyAddr + 1), ← dev_if_devWrite_ly t (t.dev lyAddr + 1), hly]
      exact ((h.line hR _).deliver hR).enter _ _
    · rw [gfxTransition_hBlank hmode h143, gfxTransition_hBlank (h.mode.trans hmode) (hly ▸ h143), hdot, hly]
      exact (h.line hR _).enter _ _
  | vBlank =>
    by_cases h153 : (s.dev lyAddr).toNat = 153
    · rw [gfxTransition_vBlank_last hmode h153, gfxTransition_vBlank_last (h.mode.trans hmode) (hly ▸ h153), hdot]
      exact (h.line hR _).enter _ _
    · rw [gfxTransition_vBlank hmode h153, gfxTransition_vBlank (h.mode.trans hmode) (hly ▸ h153), hdot, hly]
      exact (h.line hR _).enter _ _

theorem GfxAlike.loop (n : Nat) (h : GfxAlike R s t) : GfxAlike R (gfxLoop n s) (gfxLoop n t) := by
  induction n generalizing s t with
  | zero => exact h
  | succ n ih =>
    rw [gfxLoop, gfxLoop, h.mode, h.dot]
    split
    · exact ih (h.transition hR)
    · exact h

/-- And so does a step. -/
theorem GfxAlike.step (c : Nat) (h : GfxAlike R s t) : GfxAlike R (gfxStep c s) (gfxStep c t) := by
  rw [gfxStep_eq_gfxLoop, gfxStep_eq_gfxLoop, h.mode, h.dot]
  exact (h.enter _ _).loop hR _

end

/-! ### The timer on states it cannot tell apart -/

/-- The timer's registers after a step, and the requests it raises, are told by its accumulators and its registers. -/
theorem timerStep_congr {s t : State} (hdivAcc : t.divAcc = s.divAcc) (htimaAcc : t.timaAcc = s.timaAcc)
    (hdev : ∀ k, k ≠ lyAddr → k ≠ ifAddr → t.dev k = s.dev k) (c : Nat) :
    (timerStep c t).divAcc = (timerStep c s).divAcc ∧ (timerStep c t).timaAcc = (timerStep c s).timaAcc ∧
      (timerStep c t).dev divAddr = (timerStep c s).dev divAddr ∧ (timerStep c t).dev timaAddr = (timerStep c s).dev timaAddr ∧
      ∃ d, (timerStep c s).dev ifAddr = s.dev ifAddr ||| d ∧ (timerStep c t).dev ifAddr = t.dev ifAddr ||| d := by
  have hdiv := hdev divAddr (by decide) (by decide)
  have htima := hdev timaAddr (by decide) (by decide)
  have htma := hdev tmaAddr (by decide) (by decide)
  have htac := hdev tacAddr (by decide) (by decide)
  rw [timerStep_divAcc, timerStep_divAcc, timerStep_dev_div, timerStep_dev_div, hdivAcc, hdiv]
  cases henabled : timaEnabled (s.dev tacAddr) with
  | false =>
    rw [timerStep_of_disabled henabled, timerStep_of_disabled (htac ▸ henabled), divStep_dev_ne c s (by decide),
      divStep_dev_ne c s (by decide), divStep_dev_ne c t (by decide), divStep_dev_ne c t (by decide), divStep_eq c s, divStep_eq c t]
    exact ⟨rfl, htimaAcc, rfl, htima, 0, BitVec.or_zero.symm, BitVec.or_zero.symm⟩
  | true =>
    obtain ⟨hacc, hcount, hif⟩ := timerStep_counter henabled c _ rfl
    obtain ⟨hacc', hcount', hif'⟩ := timerStep_counter (htac ▸ henabled) c _ rfl
    rw [htac, htimaAcc] at hacc'
    rw [htac, htimaAcc, htma, htima] at hcount' hif'
    rw [hacc, hacc', hcount, hcount']
    exact ⟨rfl, rfl, rfl, rfl, _, hif, hif'⟩

/-! ### The two devices -/

/-- Memories that differ by what the timer writes: DIV, TIMA and the requests `d` in IF. -/
def TimerWrites (d : Byte) (m n : List Host.Cell) : Prop :=
  (∀ k, k ≠ divAddr → k ≠ timaAddr → k ≠ ifAddr → Memory.peek n k = Memory.peek m k) ∧ Memory.peek n ifAddr = Memory.peek m ifAddr ||| d

theorem gfxRel_timerWrites (d : Byte) : GfxRel (TimerWrites d) where
  peek h := h.1
  line := by
    rintro m n ⟨hpeek, hif⟩ v
    refine ⟨fun k hdiv htima hk => ?_, ?_⟩
    · rw [Memory.peek_poke, Memory.peek_poke, hpeek k hdiv htima hk]
    · rw [Memory.peek_poke_ne _ _ (by decide), Memory.peek_poke_ne _ _ (by decide), hif]
  request := by
    rintro m n ⟨hpeek, hif⟩
    refine ⟨fun k hdiv htima hk => ?_, ?_⟩
    · rw [Memory.peek_poke_ne _ _ hk, Memory.peek_poke_ne _ _ hk, hpeek k hdiv htima hk]
    · rw [Memory.peek_poke_self, Memory.peek_poke_self, hif, BitVec.or_assoc, BitVec.or_assoc, BitVec.or_comm d]

theorem gfxTransition_wf {s : State} (h : Memory.wf s.mem) : Memory.wf (gfxTransition s).mem := by
  unfold gfxTransition
  dsimp only
  split
  · exact h
  · rw [renderLine_eq]
    exact h
  · exact hBlankEnd_wf h
  · exact vBlankLineEnd_wf h

theorem gfxLoop_wf (n : Nat) {s : State} (h : Memory.wf s.mem) : Memory.wf (gfxLoop n s).mem := by
  induction n generalizing s with
  | zero => exact h
  | succ n ih =>
    rw [gfxLoop]
    split
    · exact ih (gfxTransition_wf h)
    · exact h

theorem gfxStep_wf (c : Nat) {s : State} (h : Memory.wf s.mem) : Memory.wf (gfxStep c s).mem := gfxLoop_wf _ h

/-- Settles O55: the graphics unit does after the timer what it does alone (`GfxAlike.step`), and the timer after the graphics unit
(`timerStep_congr`); the two memories read alike everywhere, so they are equal. -/
theorem timerAndGraphicsCommute : Obligations.TimerAndGraphicsCommute := by
  intro s c hwf
  have hregs := gfxStep_eq c s
  obtain ⟨hdivAcc, htimaAcc, hdiv, htima, d, hif, hif'⟩ := timerStep_congr (s := s) (t := gfxStep c s) (by rw [hregs]) (by rw [hregs])
    (fun k => gfxStep_dev_ne c s) c
  have htimer := timerStep_eq c s
  have halike : GfxAlike (TimerWrites d) s (timerStep c s) :=
    ⟨⟨fun k => timerStep_dev_ne c s, hif⟩, by rw [htimer], by rw [htimer], by rw [htimer], by rw [htimer]⟩
  obtain ⟨⟨hdev, hif''⟩, hmode, hdot, hfb, hframes⟩ := halike.step (gfxRel_timerWrites d) c
  have hmem : (gfxStep c (timerStep c s)).mem = (timerStep c (gfxStep c s)).mem := by
    refine Memory.ext (gfxStep_wf c (timerStep_wf c hwf)) (timerStep_wf c (gfxStep_wf c hwf)) fun k => ?_
    change (gfxStep c (timerStep c s)).dev k = (timerStep c (gfxStep c s)).dev k
    by_cases hkdiv : k = divAddr
    · rw [hkdiv, hdiv, gfxStep_dev_ne _ _ (by decide) (by decide)]
    by_cases hktima : k = timaAddr
    · rw [hktima, htima, gfxStep_dev_ne _ _ (by decide) (by decide)]
    by_cases hkif : k = ifAddr
    · rw [hkif, hif']
      exact hif''
    · rw [timerStep_dev_ne c _ hkdiv hktima hkif]
      exact hdev k hkdiv hktima hkif
  calc gfxStep c (timerStep c s)
    _ = { s with
          divAcc := (timerStep c s).divAcc, timaAcc := (timerStep c s).timaAcc, mem := (gfxStep c (timerStep c s)).mem,
          mode := (gfxStep c s).mode, dot := (gfxStep c s).dot, fb := (gfxStep c s).fb, frames := (gfxStep c s).frames } := by
        rw [← hmode, ← hdot, ← hfb, ← hframes]
        refine (gfxStep_eq c _).trans ?_
        rw [htimer]
    _ = timerStep c (gfxStep c s) := by
        rw [hmem, ← hdivAcc, ← htimaAcc]
        refine Eq.trans ?_ (timerStep_eq c _).symm
        rw [hregs]

end Sys2Proof.Machine
end

section
/-! PROOFS. The cost of a step (70_reset_and_hazards.md R414): the cost table over the instructions that latch no fault, and that nothing else in a
step touches the cycle counter. -/

namespace Sys2Proof.Machine

open Sys2Proof.Claims

/-- The figures of a cost: the one, or those of a conditional transfer taken and not taken. -/
def Cost.figures : Cost → List Nat
  | .fixed n => [n]
  | .branch _ taken notTaken => [taken, notTaken]

theorem Cost.cycles_mem_figures (k : Cost) (s : State) : k.cycles s ∈ k.figures := by
  cases k with
  | fixed n => exact List.mem_singleton.2 rfl
  | branch cc taken notTaken =>
    rw [Cost.cycles, Cost.figures]
    split <;> simp

/-- Every figure is a multiple of 4 from 4 to 24. -/
def Cost.bounded (k : Cost) : Bool := k.figures.all fun c => 4 ≤ c && c ≤ 24 && c % 4 == 0

theorem Cost.cycles_of_bounded {k : Cost} (h : k.bounded = true) (s : State) : 4 ≤ k.cycles s ∧ k.cycles s ≤ 24 ∧ k.cycles s % 4 = 0 := by
  have hfigure := List.all_eq_true.1 h _ (k.cycles_mem_figures s)
  simpa [and_assoc] using hfigure

theorem extendedCycles_bounded : ∀ op2, (cost (.prefixCB op2)).bounded = true := by decide

/-- The table, row by row, but for the rows of the faulting opcodes (R105, R106). -/
theorem cost_bounded (i : Instr) (himpl : ∀ op ∈ unimplementedOpcodes, (encode i).head? ≠ some op) : (cost i).bounded = true := by
  cases i
  case stop | illegal_D3 | illegal_DB | illegal_DD | illegal_E3 | illegal_E4 | illegal_EB | illegal_EC | illegal_ED | illegal_F4 | illegal_FC |
      illegal_FD =>
    exact absurd rfl (himpl _ (by decide))
  case prefixCB op2 => exact extendedCycles_bounded op2
  all_goals rfl

theorem cost_decodeBytes_bounded {b0 : Byte} (h : b0 ∉ unimplementedOpcodes) (b1 b2 : Byte) : (cost (decodeBytes b0 b1 b2)).bounded = true := by
  refine cost_bounded _ fun op hop hhead => h ?_
  rw [encode_decodeBytes_head, Option.some.injEq] at hhead
  exact hhead ▸ hop

/-! ### The cycle counter -/

/-- The devices take no cycles, and a dispatch costs 0 (D7). -/
theorem afterCpu_cyc (c : Nat) (t : State) : (afterCpu c t).cyc = t.cyc := by
  unfold afterCpu
  split
  · rfl
  · rw [interruptDispatch_eq, gfxStep_eq, timerStep_eq]

/-- The step of a running machine: a fault and no cycles, or the cost of the instruction. -/
theorem step_running_cyc {s : State} (hfault : s.fault = none) (hrun : s.halted = false) :
    ∃ t, step s = .next t ∧
      (t.fault = none → ∃ c, 4 ≤ c ∧ c ≤ 24 ∧ c % 4 = 0 ∧ t.cyc = s.cyc + c) ∧ (t.fault ≠ none → t.cyc = s.cyc) := by
  by_cases hop : s.byte s.pc ∈ unimplementedOpcodes
  · refine ⟨_, step_of_mem_unimplementedOpcodes hfault hrun hop, fun h => ?_, fun _ => rfl⟩
    rw [State.unimplemented_one hfault] at h
    exact absurd h (Option.some_ne_none _)
  · obtain ⟨t, hexec, hkept⟩ := exec_decodeBytes_fault hop (s.byte (s.pc + 1)) (s.byte (s.pc + 2)) s
    obtain ⟨u, hexec', hkeeps⟩ := exec_keeps (decodeBytes (s.byte s.pc) (s.byte (s.pc + 1)) (s.byte (s.pc + 2))) s
    obtain rfl : t = u := Host.Outcome.next.inj (hexec.symm.trans hexec')
    obtain ⟨hlo, hhi, hmod⟩ := Cost.cycles_of_bounded (cost_decodeBytes_bounded hop (s.byte (s.pc + 1)) (s.byte (s.pc + 2))) s
    have hok : t.fault = none := hkept.trans hfault
    refine ⟨_, step_of_cpuStep hfault (cpuStep_running hrun (fetch_eq s) hexec), fun _ => ⟨_, hlo, hhi, hmod, ?_⟩, fun h => ?_⟩
    · rw [afterCpu_cyc, ← hkeeps.cyc]
      simp [charge, hok]
    · rw [afterCpu_fault, charge_fault] at h
      exact absurd hok h

/-- Settles O9: halted, the idle cycles; running, `step_running_cyc`. -/
theorem stepCostIsBounded : Obligations.StepCostIsBounded := by
  intro s hfault
  cases hhalt : s.halted
  case true =>
    refine ⟨_, step_of_cpuStep hfault (cpuStep_halted hhalt), fun _ => ⟨4, by decide, by decide, by decide, afterCpu_cyc _ _⟩, fun h => ?_⟩
    rw [afterCpu_fault] at h
    exact absurd hfault h
  case false => exact step_running_cyc hfault hhalt

end Sys2Proof.Machine
end

section
/-! PROOFS. The fault latch (10_state.md R30, 60_exceptions.md R303): every operation, the dispatch and the devices do the same whatever is latched,
so a change of the latch before them is the same change after them; a fault taken where one is latched keeps the first. -/

namespace Sys2Proof.Machine

open Sys2Proof.Claims

/-! ### The operations -/

/-- The state with another fault latch. -/
def State.withFault (s : State) (g : Option Fault) : State := { s with fault := g }

theorem withFault_ite (c : Prop) [Decidable c] (s t : State) (g : Option Fault) :
    (if c then s else t).withFault g = if c then s.withFault g else t.withFault g :=
  apply_ite (·.withFault g) c s t

theorem advance_withFault (s : State) (g : Option Fault) (n : Nat) : (s.withFault g).advance n = (s.advance n).withFault g := rfl

theorem write_withFault (s : State) (g : Option Fault) (a : Word) (v : Byte) : (s.withFault g).write a v = (s.write a v).withFault g := by
  rw [State.write_congr (s := s) (t := s.withFault g) rfl rfl a v, State.write_eq s]
  rfl

theorem writeWord_withFault (s : State) (g : Option Fault) (a v : Word) : (s.withFault g).writeWord a v = (s.writeWord a v).withFault g := by
  rw [State.writeWord, write_withFault, write_withFault]
  rfl

theorem push16_withFault (s : State) (g : Option Fault) (v : Word) : (s.withFault g).push16 v = (s.push16 v).withFault g :=
  writeWord_withFault { s with sp := s.sp - 2 } g _ v

theorem setOperand_withFault (s : State) (g : Option Fault) (o : Operand8) (v : Byte) :
    (s.withFault g).setOperand o v = (s.setOperand o v).withFault g := by
  cases o with
  | reg r => cases r <;> rfl
  | mem a => exact write_withFault s g a v
  | imm n => rfl

theorem operandByte_withFault (s : State) (g : Option Fault) (o : Operand8) : (s.withFault g).operandByte o = s.operandByte o := by
  cases o with
  | reg r => cases r <;> rfl
  | mem a => rfl
  | imm n => rfl

/-- A fault taken: the first stays latched (R30). -/
theorem unimplemented_withFault (s : State) (g : Option Fault) (op : Byte) (n : Nat) :
    (s.withFault g).unimplemented op n = (s.unimplemented op n).withFault (g.or (some (.unimplementedOpcode op s.pc))) := by
  cases g <;> rfl

/-! ### The instructions -/

theorem prefixed_withFault (op2 : Byte) (s : State) (g : Option Fault) : prefixed op2 (s.withFault g) = (prefixed op2 s).withFault g := by
  have hoperand : ∀ z, operandOf (s.withFault g) z = operandOf s z := fun _ => rfl
  rw [prefixed, prefixed, if_pos (show Config.implementedCB op2 = true from rfl), if_pos (show Config.implementedCB op2 = true from rfl)]
  unfold extendedOp
  dsimp only
  rw [hoperand]
  split
  all_goals
    simp only [shiftOperand, modify, testBit, resetBit, setBit, State.getThen_eq, advance_withFault, operandByte_withFault, setOperand_withFault]
  all_goals rfl

/-- The latch before an instruction reaches the latch after it alone, and stays if a fault is latched. -/
theorem exec_withFault (i : Instr) (s : State) :
    ∃ t, exec i s = .next t ∧ ∀ g, ∃ g', exec i (s.withFault g) = .next (t.withFault g') ∧ ∀ f, g = some f → g' = some f := by
  cases i
  all_goals refine ⟨_, rfl, fun g => ?_⟩
  case stop | illegal_D3 | illegal_DB | illegal_DD | illegal_E3 | illegal_E4 | illegal_EB | illegal_EC | illegal_ED | illegal_F4 | illegal_FC |
      illegal_FD =>
    refine ⟨_, congrArg Host.Outcome.next (unimplemented_withFault s g _ _), fun f hf => ?_⟩
    rw [hf, Option.some_or]
  all_goals refine ⟨g, congrArg Host.Outcome.next ?_, fun _ => id⟩
  case prefixCB op2 => exact prefixed_withFault op2 s g
  all_goals simp only [loadReg, storeByte, stepHL, loadPair, storeSP, copyHLtoSP, pushPair, popPair_eq, aluA, modify, decimalAdjust, complementA, setCarry,
    complementCarry, addHL, addPair, spOffsetTo, rotateA, shiftOperand, testBit, resetBit, setBit, halt, setIME, jump, jumpIf, jumpHL, jumpRel,
    jumpRelIf, call, callIf, ret_eq, retIf, reti_eq, State.getThen_eq, withFault_ite, advance_withFault, write_withFault, writeWord_withFault,
    push16_withFault, setOperand_withFault, operandByte_withFault]
  all_goals rfl

/-! ### The dispatch and the devices -/

theorem takeInterrupt_withFault (s : State) (g : Option Fault) (i : Nat) :
    (s.withFault g).takeInterrupt i = (s.takeInterrupt i).withFault g := by
  have hpush : (s.withFault g).push16 (s.withFault g).pc = (s.push16 s.pc).withFault g := push16_withFault s g s.pc
  unfold State.takeInterrupt
  rw [hpush]
  rfl

theorem interruptDispatch_withFault (s : State) (g : Option Fault) :
    interruptDispatch (s.withFault g) = (interruptDispatch s).withFault g := by
  unfold interruptDispatch
  rw [withFault_ite, withFault_ite, ← takeInterrupt_withFault]
  rfl

theorem divTick_withFault (s : State) (g : Option Fault) : divTick (s.withFault g) = (divTick s).withFault g := rfl

theorem divLoop_withFault (n : Nat) (s : State) (g : Option Fault) : divLoop n (s.withFault g) = (divLoop n s).withFault g := by
  induction n generalizing s with
  | zero => rfl
  | succ n ih => rw [divLoop, divLoop, withFault_ite, ← ih, ← divTick_withFault]; rfl

theorem timaTick_withFault (th : Nat) (s : State) (g : Option Fault) : timaTick th (s.withFault g) = (timaTick th s).withFault g := by
  unfold timaTick
  dsimp only
  rw [withFault_ite]
  rfl

theorem timaLoop_withFault (th n : Nat) (s : State) (g : Option Fault) : timaLoop th n (s.withFault g) = (timaLoop th n s).withFault g := by
  induction n generalizing s with
  | zero => rfl
  | succ n ih => rw [timaLoop, timaLoop, withFault_ite, ← ih, ← timaTick_withFault]; rfl

theorem timerStep_withFault (c : Nat) (s : State) (g : Option Fault) : timerStep c (s.withFault g) = (timerStep c s).withFault g := by
  have hdiv : divStep c (s.withFault g) = (divStep c s).withFault g := divLoop_withFault _ { s with divAcc := s.divAcc + c } g
  rw [timerStep, timerStep, hdiv, timaStep, timaStep, withFault_ite, ← timaLoop_withFault]
  rfl

/-- The graphics unit cannot tell the two apart (`gfxRel_eq`). -/
theorem gfxStep_withFault (c : Nat) (s : State) (g : Option Fault) : gfxStep c (s.withFault g) = (gfxStep c s).withFault g := by
  obtain ⟨hmem, hmode, hdot, hfb, hframes⟩ := GfxAlike.step gfxRel_eq (s := s) (t := s.withFault g) c ⟨rfl, rfl, rfl, rfl, rfl⟩
  rw [gfxStep_eq c (s.withFault g), ← hmem, hmode, hdot, hfb, hframes, gfxStep_eq c s]
  rfl

/-- Settles O7: the step answers the latch; everything else does what it does with none latched, and `exec_withFault` keeps it. -/
theorem faultedMachineIsStuck : Obligations.FaultedMachineIsStuck := by
  intro s f hfault
  have hs : ({ s with fault := none } : State).withFault (some f) = s := by rw [← hfault]; rfl
  refine ⟨by simp [step, machineStep, hfault], fun i => ?_, ?_, fun c => ⟨?_, ?_⟩⟩
  · obtain ⟨t, hexec, hlatch⟩ := exec_withFault i { s with fault := none }
    obtain ⟨g, hexec', hkept⟩ := hlatch (some f)
    rw [hs] at hexec'
    exact ⟨t.withFault g, t.fault, hexec', hkept f rfl, hexec⟩
  · exact (congrArg interruptDispatch hs).symm.trans (interruptDispatch_withFault _ _)
  · exact (congrArg (timerStep c) hs).symm.trans (timerStep_withFault c _ _)
  · exact (congrArg (gfxStep c) hs).symm.trans (gfxStep_withFault c _ _)

end Sys2Proof.Machine
end
